-- ==== Sys2Proof/Word.lean ====
section
/-! DEFINITION. The words of the Hektas 1206: bytes, times, register addresses, indices of its tables, and the sets
of channels and patterns that the host reads as bits (10_register_and_record_formats.md, section 10.1). -/

namespace Sys2Proof

/-- One register byte. -/
abbrev Byte := BitVec 8

/-- A value of the 32-bit millisecond time base (R1). -/
abbrev Time := BitVec 32

/-- A 16-bit short time or duration of a record (section 10.1). -/
abbrev Short := BitVec 16

/-- A register address 00h..3Fh: the value of the register pointer. -/
abbrev RegAddr := BitVec 6

/-- A 7-bit I2C target address. -/
abbrev BusAddr := BitVec 7

/-- A channel C0..C11. -/
abbrev Chan := Fin 12

/-- An output OUT0..OUT5. -/
abbrev OutIdx := Fin 6

/-- A pattern P0..P23. -/
abbrev PatIdx := Fin 24

/-- A tracker slot T0..T5. -/
abbrev SlotIdx := Fin 6

/-- A channel set: bit n stands for Cn. -/
abbrev ChanSet := BitVec 12

/-- A pattern set: bit n stands for Pn. -/
abbrev PatSet := BitVec 24

/-- The 16-byte record buffer. -/
abbrev Buf := Vector Byte 16

end Sys2Proof
end

