-- ==== Sys2Proof/Syntax.lean ====
section
/-! DEFINITION. The commands of the block: one constructor per row of spec/opcode_table.json. A command is one
happening: an event of the part's own blocks, a byte or condition on the I2C bus, or an event at a pin or at the
supply. A row that is a byte written to CMD carries no operand of its own: its arguments are the registers ARG0 to
ARG2 and the record buffer as they stand (R150). -/

namespace Sys2Proof

/-- R134, last paragraph: a data byte for QUEUE_CTL that the host writes in the middle of a happening, after `after`
of the records that the happening offers to the queue. -/
structure PopBetween where
  after : Nat
  byte : Byte
  deriving DecidableEq, Repr

/-- One command. -/
inductive Instr where
  /-- R1: the millisecond counter adds 1. -/
  | timeBaseTick
  /-- R3: the time base has reached NEXT_SCAN and a scan starts. -/
  | scanStart
  /-- R4, R15: the raw count of the channel at the scan position is delivered; `pop` is the pop that falls between its
  pushes, if one does (R134, log 26). -/
  | scanResult (raw : Fin 4096) (pop : Option PopBetween := none)
  /-- R83: the matcher takes the due time that is next in order; `pop` as in `scanResult`. -/
  | dueTimeTaken (pop : Option PopBetween := none)
  /-- R119: the time base has reached PULSE_DUE of output `out`. -/
  | pulseEnd (out : OutIdx)
  /-- R167: the supply rises above its operating threshold; `eraseDone` says whether an erase that this cuts off had
  finished (R174, R180). -/
  | powerOn (eraseDone : Bool)
  /-- R167: RST_N is driven low; `eraseDone` as in `powerOn`. -/
  | rstNAssert (eraseDone : Bool)
  /-- R167: RST_N rises. -/
  | rstNRelease
  /-- R168: the start-up load ends; `adselLow` is the sampled level of ADSEL (R143). -/
  | startUpLoadEnd (adselLow : Bool)
  /-- R147: a START and an address byte, with its direction bit. -/
  | addressByte (addr : BusAddr) (read : Bool)
  /-- R145: the first data byte of a write transaction. -/
  | pointerByte (b : Byte)
  /-- R145: a data byte for a register that has no row of its own. -/
  | registerWrite (b : Byte)
  /-- R148: the first byte of a read transaction that begins at TIME, HELD or QUEUE_HEAD. -/
  | snapshotRead
  /-- R144: a STOP on the bus. -/
  | stopCondition
  /-- R148: a repeated START with the address byte of the new transaction. -/
  | repeatedStart (addr : BusAddr) (read : Bool)
  /-- R138: a data byte for FLAGS. -/
  | flagsWrite (b : Byte)
  /-- R139: a data byte for ATTN_MASK. -/
  | attnMaskWrite (b : Byte)
  /-- R132: a data byte for QUEUE_CTL. -/
  | pop (b : Byte)
  /-- R123: a data byte for OUT_LEVEL. -/
  | outLevelWrite (b : Byte)
  /-- R156: 01h written to CMD. -/
  | readRecord
  /-- R157: 02h written to CMD. -/
  | writeRecord
  /-- R48: 10h written to CMD. -/
  | beginPattern
  /-- R48: 11h written to CMD. -/
  | appendStep
  /-- R49: 12h written to CMD. -/
  | endPattern
  /-- R51: 13h written to CMD. -/
  | abandonPattern
  /-- R52: 14h written to CMD. -/
  | revisePattern
  /-- R53: 15h written to CMD. -/
  | deletePattern
  /-- R54: 16h written to CMD. -/
  | enablePattern
  /-- R55, R56: 17h written to CMD. -/
  | disablePattern
  /-- R57: 18h written to CMD. -/
  | armPattern
  /-- R108: 20h written to CMD. -/
  | flushTrackers
  /-- R6: 28h written to CMD. -/
  | startScan
  /-- R8: 29h written to CMD. -/
  | stopScan
  /-- R34: 2Ah written to CMD. -/
  | recalibrate
  /-- R135: 30h written to CMD. -/
  | clearQueue
  /-- R170: 40h written to CMD. -/
  | commit
  /-- R175: 41h written to CMD. -/
  | restoreStored
  /-- R178: 42h written to CMD. -/
  | restoreFactory
  /-- R179: 43h written to CMD. -/
  | eraseStored
  /-- R159: 4Fh written to CMD. -/
  | reinit
  /-- R150: a byte that is not a command code written to CMD. -/
  | badCommand (code : Byte)
  /-- R172: phase 2 of a commit ends. -/
  | commitEraseEnd
  /-- R172: phase 3 of a commit ends. -/
  | commitProgramEnd
  /-- R173: phase 4 of a commit ends; `matched` says whether what was read back equals what was written. -/
  | commitVerifyEnd (matched : Bool)
  /-- R173: phase 5 of a commit ends; `matched` says whether the check value read back as written. -/
  | commitSealEnd (matched : Bool)
  /-- R176: a restore load ends. -/
  | restoreLoadEnd
  /-- R179: the erase of the first bank ends. -/
  | eraseFirstBankEnd
  /-- R179: the erase of the second bank ends. -/
  | eraseSecondBankEnd
  /-- R146: a data byte of a read transaction is transmitted. -/
  | readByteTransmitted
  /-- R174: the supply fails; `eraseDone` as in `powerOn`. -/
  | lossOfPower (eraseDone : Bool)
  /-- R174: in phase 5 of a commit the write of the check value word ends. -/
  | checkValueWordWritten
  deriving DecidableEq, Repr

end Sys2Proof
end

