-- ==== Sys2Proof/Decode.lean ====
section
/-! DEFINITION. The command that a word or a byte spells. No row of spec/opcode_table.json has bits, so no word of
the table's numbering spells a command and `decodeTableWord` answers none. What the spec does give in bits is the
byte that the host writes: its code at CMD (section 10.3.1) and the register that the pointer names (section 8.3). -/

namespace Sys2Proof

/-- The command that a word of the table's bits spells: none, since no row has bits. -/
def decodeTableWord (_nbits _w : Nat) : Option Instr := none

/-- The command that a byte written to CMD offers (section 10.3.1, R150). -/
def cmdRow (b : Byte) : Instr :=
  match b.toNat with
  | 0x01 => .readRecord
  | 0x02 => .writeRecord
  | 0x10 => .beginPattern
  | 0x11 => .appendStep
  | 0x12 => .endPattern
  | 0x13 => .abandonPattern
  | 0x14 => .revisePattern
  | 0x15 => .deletePattern
  | 0x16 => .enablePattern
  | 0x17 => .disablePattern
  | 0x18 => .armPattern
  | 0x20 => .flushTrackers
  | 0x28 => .startScan
  | 0x29 => .stopScan
  | 0x2A => .recalibrate
  | 0x30 => .clearQueue
  | 0x40 => .commit
  | 0x41 => .restoreStored
  | 0x42 => .restoreFactory
  | 0x43 => .eraseStored
  | 0x4F => .reinit
  | _ => .badCommand b

/-- The byte that a row written to CMD stands for (section 10.3.1); none for the other rows. -/
def cmdCode (i : Instr) : Option Byte :=
  match i with
  | .readRecord => some 0x01
  | .writeRecord => some 0x02
  | .beginPattern => some 0x10
  | .appendStep => some 0x11
  | .endPattern => some 0x12
  | .abandonPattern => some 0x13
  | .revisePattern => some 0x14
  | .deletePattern => some 0x15
  | .enablePattern => some 0x16
  | .disablePattern => some 0x17
  | .armPattern => some 0x18
  | .flushTrackers => some 0x20
  | .startScan => some 0x28
  | .stopScan => some 0x29
  | .recalibrate => some 0x2A
  | .clearQueue => some 0x30
  | .commit => some 0x40
  | .restoreStored => some 0x41
  | .restoreFactory => some 0x42
  | .eraseStored => some 0x43
  | .reinit => some 0x4F
  | .badCommand b => some b
  | .timeBaseTick | .scanStart | .scanResult _ _ | .dueTimeTaken _ | .pulseEnd _ | .powerOn _ | .rstNAssert _
  | .rstNRelease | .startUpLoadEnd _ | .addressByte _ _ | .pointerByte _ | .registerWrite _ | .snapshotRead
  | .stopCondition | .repeatedStart _ _ | .flagsWrite _ | .attnMaskWrite _ | .pop _ | .outLevelWrite _
  | .commitEraseEnd | .commitProgramEnd | .commitVerifyEnd _ | .commitSealEnd _ | .restoreLoadEnd
  | .eraseFirstBankEnd | .eraseSecondBankEnd | .readByteTransmitted | .lossOfPower _ | .checkValueWordWritten => none

/-- Whether a byte is one of the command codes of section 10.3.1. -/
def isCommandCode (b : Byte) : Bool :=
  match cmdRow b with
  | .badCommand _ => false
  | _ => true

/-- The row that a data byte `b` of a write transaction is when the register pointer stands at `a` (R145 and the
table of section 8.3): the byte acts on the register that the pointer names. -/
def writeRow (a : RegAddr) (b : Byte) : Instr :=
  match a.toNat with
  | 0x04 => .flagsWrite b
  | 0x05 => .attnMaskWrite b
  | 0x0C => cmdRow b
  | 0x14 => .pop b
  | 0x16 => .outLevelWrite b
  | _ => .registerWrite b

/-- Whether the register at `a` has a row of its own for a written byte. -/
def hasOwnRow (a : RegAddr) : Bool :=
  a == 0x04#6 || a == 0x05#6 || a == 0x0C#6 || a == 0x14#6 || a == 0x16#6

end Sys2Proof
end

