-- ==== Sys2Proof/Config.lean ====
section
/-! DEFINITION. The configuration records, the image that holds all of them, and the part's fixed values: the
factory image (R166) and the identification bytes (R149). The spec leaves no value open that an instruction stores,
so there is no free value here. -/

namespace Sys2Proof

/-- Step kinds (03_patterns_and_the_step_pool.md, section 3.3). -/
inductive Kind where
  | chord | tap | hold | lift | quiet
  deriving DecidableEq, Repr

/-- A step of a pattern (section 3.3). EARLIEST, LATEST and SPAN are in units of 10 ms. -/
structure Step where
  kind : Kind
  channels : ChanSet
  earliest : Nat
  latest : Nat
  span : Nat
  deriving DecidableEq, Repr

/-- REARM (section 3.2). -/
inductive Rearm where
  | once | again | afterRelease
  deriving DecidableEq, Repr

/-- ACTION_OP (section 3.2). -/
inductive ActionOp where
  | set | clear | toggle | pulse | follow
  deriving DecidableEq, Repr

/-- The thirteen fields of a pattern header (section 3.2). `actionOut = none` is ACTION_OUTPUT NONE. -/
structure PatHeader where
  priority : Fin 8
  tag : Byte
  strict : Bool
  claim : Bool
  defer : Bool
  reportDone : Bool
  reportAbort : Bool
  rearm : Rearm
  startEnabled : Bool
  window : Nat
  actionOut : Option OutIdx
  actionOp : ActionOp
  pulseLen : Nat
  deriving DecidableEq, Repr

/-- R38: the empty header, every field 0 except ACTION_OUTPUT, which is NONE. -/
def PatHeader.empty : PatHeader :=
  { priority := 0, tag := 0, strict := false, claim := false, defer := false, reportDone := false,
    reportAbort := false, rearm := .once, startEnabled := false, window := 0, actionOut := none, actionOp := .set,
    pulseLen := 0 }

/-- A CHANNEL record (02_channel_conditioning.md, section 2.1). -/
structure ChanCfg where
  enable : Bool
  report : Bool
  touch : Nat
  hyst : Nat
  pressDb : Nat
  releaseDb : Nat
  noiseBand : Nat
  trackInterval : Nat
  maxHold : Nat
  driftLimit : Nat
  deriving DecidableEq, Repr

/-- DRIVE (06_outputs.md, section 6.1). -/
inductive Drive where
  | pushPull | openDrain
  deriving DecidableEq, Repr

/-- POLARITY. -/
inductive Polarity where
  | activeHigh | activeLow
  deriving DecidableEq, Repr

/-- MODE. -/
inductive OutMode where
  | pattern | host
  deriving DecidableEq, Repr

/-- RETRIGGER. -/
inductive Retrigger where
  | extend | keep
  deriving DecidableEq, Repr

/-- An OUTPUT record (section 6.1). `initialHigh` is INITIAL HIGH. -/
structure OutCfg where
  enable : Bool
  drive : Drive
  polarity : Polarity
  mode : OutMode
  retrigger : Retrigger
  initialHigh : Bool
  deriving DecidableEq, Repr

/-- The GLOBALS record (R158). -/
structure Globals where
  scanPeriod : Nat
  scanAtStart : Bool
  address : BusAddr
  deriving DecidableEq, Repr

/-- What an image records of a defined pattern (R161): header, enable bit, steps. -/
structure PatImage where
  header : PatHeader
  enabled : Bool
  steps : List Step
  deriving DecidableEq, Repr

/-- An image: one complete configuration (R161). A pattern that is not defined is `none`. -/
structure Image where
  globals : Globals
  attnMask : BitVec 7
  chans : Vector ChanCfg 12
  outs : Vector OutCfg 6
  pats : Vector (Option PatImage) 24
  deriving DecidableEq, Repr

/-- R166: the factory CHANNEL record. -/
def factoryChanCfg : ChanCfg :=
  { enable := true, report := true, touch := 120, hyst := 20, pressDb := 2, releaseDb := 2, noiseBand := 12,
    trackInterval := 16, maxHold := 0, driftLimit := 0 }

/-- R166: the factory OUTPUT record. -/
def factoryOutCfg : OutCfg :=
  { enable := false, drive := .pushPull, polarity := .activeHigh, mode := .pattern, retrigger := .extend,
    initialHigh := false }

/-- R166: the factory GLOBALS record. -/
def factoryGlobals : Globals := { scanPeriod := 16, scanAtStart := true, address := 0x3A#7 }

/-- R166: the factory image in mask ROM. -/
def factoryImage : Image :=
  { globals := factoryGlobals, attnMask := 0x40#7, chans := Vector.replicate 12 factoryChanCfg,
    outs := Vector.replicate 6 factoryOutCfg, pats := Vector.replicate 24 none }

/-- R143: the fixed address that ADSEL low selects. -/
def strapAddress : BusAddr := 0x3A#7

/-- R149: the ID byte. -/
def idByte : Byte := 0x5C#8

/-- R149: the REV byte. -/
def revByte : Byte := 0x01#8

/-- R127: the most records the report queue holds. -/
def queueSize : Nat := 32

/-- R45: the slots of the step pool. -/
def poolSize : Nat := 96

end Sys2Proof
end

