-- ==== Sys2Proof/Machine/State.lean ====
section
/-! DEFINITION. The state of the block, as plain data: every register, table, queue, counter and mode the spec gives
it, the nonvolatile banks, and the queue of the commands that wait. INVENTORY.md lists each field with its rule and
its reset value. -/

namespace Sys2Proof.Machine

/-! ## Supply and start-up (09_configuration_store_and_start_up.md) -/

/-- RESET_CAUSE (R149). -/
inductive ResetCause where
  | powerOn | pin | reinit
  deriving DecidableEq, Repr

/-- What the part as a whole is doing (R167 to R169). -/
inductive Mode where
  /-- The supply is below its operating threshold. -/
  | unpowered
  /-- RST_N is held low; `powerOnWaits` when a power-on reset waits for RST_N to rise. -/
  | held (powerOnWaits : Bool)
  /-- A start-up load is in progress. -/
  | loading (cause : ResetCause)
  /-- The part runs: the port is present. -/
  | running
  deriving DecidableEq, Repr

/-! ## Scanner (01_time_base_and_scanning.md, section 1.2) -/

/-- The scan in progress: its scan list, and the channels of it still to be delivered, the first of which is the
scan position. -/
structure Scan where
  list : List Chan
  left : List Chan
  deriving DecidableEq, Repr

/-- The scanner's own state; SCAN_PERIOD stands in the GLOBALS record. -/
structure Scanner where
  running : Bool
  lastScan : Option Time
  nextScan : Option Time
  scan : Option Scan
  deriving DecidableEq, Repr

/-! ## Channel conditioner (02_channel_conditioning.md) -/

/-- Channel STATE (R13). -/
inductive ChanState where
  | off | settling | idle | arming | pressed | releasing | suspended | fault
  deriving DecidableEq, Repr

/-- FAULT_REASON (R13). -/
inductive FaultReason where
  | none | isOpen | short | drift
  deriving DecidableEq, Repr

/-- CHANNEL_LIVE with the four items that have no field of their own in it (section 2.1). `satHigh` is the
saturation extreme: 4095 when true, 0 when false. -/
structure ChanLive where
  state : ChanState
  raw : Nat
  baseline : Nat
  reference : Nat
  signal : Int
  debounce : Nat
  satCount : Nat
  faultReason : FaultReason
  pressTime : Time
  settleCount : Nat
  settleSum : Nat
  track : Nat
  satHigh : Bool
  deriving DecidableEq, Repr

/-- R36: every live value 0, in state `st`. -/
def ChanLive.zero (st : ChanState) : ChanLive :=
  { state := st, raw := 0, baseline := 0, reference := 0, signal := 0, debounce := 0, satCount := 0,
    faultReason := .none, pressTime := 0, settleCount := 0, settleSum := 0, track := 0, satHigh := false }

/-- The cause of an input event (R26). -/
inductive Cause where
  | natural | disabled | fault | stuck | halt | recal
  deriving DecidableEq, Repr

/-- An input event (R26): a PRESS, or a RELEASE with its held duration. -/
structure Event where
  chan : Chan
  press : Bool
  time : Time
  cause : Cause
  duration : Short
  deriving DecidableEq, Repr

/-! ## Pattern table (03_patterns_and_the_step_pool.md) -/

/-- Pattern STATE (section 3.1). -/
inductive PatState where
  | empty | building | disabled | ready | active | spent | locked
  deriving DecidableEq, Repr

/-- The definition part of a pattern table entry (R38): header, step list, UNIVERSE. -/
structure PatDef where
  header : PatHeader
  steps : List Step
  univ : ChanSet
  deriving DecidableEq, Repr

/-- R38: the definition of an EMPTY pattern. -/
def PatDef.empty : PatDef := { header := PatHeader.empty, steps := [], univ := 0 }

/-! ## Matcher (04_trackers_and_step_matching.md, 05_priority_claims_and_deferred_completion.md) -/

/-- The kind of STEP_DUE (R63). -/
inductive DueKind where
  | late | split | long | holdEnd | quietEnd
  deriving DecidableEq, Repr

/-- A WAITING tracker's record (R63). -/
structure Waiting where
  pattern : PatIdx
  step : Nat
  startTime : Time
  stepStart : Time
  collected : ChanSet
  chordStart : Option Time
  tapPress : Option Time
  stepDue : Option (DueKind × Time)
  overallDue : Option Time
  deriving DecidableEq, Repr

/-- A PENDING tracker's record (R63). -/
structure Pending where
  pattern : PatIdx
  step : Nat
  startTime : Time
  stepStart : Time
  endTime : Time
  blockers : PatSet
  deriving DecidableEq, Repr

/-- A tracker slot (R63). -/
inductive Tracker where
  | free
  | waiting (w : Waiting)
  | pending (p : Pending)
  deriving DecidableEq, Repr

/-- The reason of an abort or cancel (section 4.7). -/
inductive Reason where
  | early | late | expired | split | broken | long | holdLost | interrupted | foreign | channelLost | evicted
  | superseded | cancelled
  deriving DecidableEq, Repr

/-! ## Output block (06_outputs.md) -/

/-- The state of an output with its further item (section 6.1). -/
inductive OutState where
  | off
  | low
  | high
  | pulsing (due : Time)
  | following (set : ChanSet)
  deriving DecidableEq, Repr

/-! ## Report queue (07_report_queue_and_attention.md) -/

/-- The event of a CHANNEL queue record with its cause or reason (R28). -/
inductive ChanNote where
  | press
  | release (cause : Cause)
  | stuck
  | fault (reason : FaultReason)
  deriving DecidableEq, Repr

/-- A queue record of one of the five kinds (R128). -/
inductive Record where
  | recognized (pattern : PatIdx) (tag : Byte) (start stop : Short) (deferred skipped : Bool)
  | aborted (pattern : PatIdx) (tag : Byte) (step : Nat) (reason : Reason) (time : Short)
  | refused (pattern : PatIdx) (tag : Byte) (time : Short)
  | channel (chan : Chan) (note : ChanNote) (time duration : Short)
  | lost (count : Nat) (time : Short)
  deriving DecidableEq, Repr

/-- The queue and LOST_COUNT (R127). -/
structure Report where
  records : List Record
  lost : Nat
  deriving DecidableEq, Repr

/-! ## Configuration store (09_configuration_store_and_start_up.md) -/

/-- One of the two banks. -/
inductive BankId where
  | a | b
  deriving DecidableEq, Repr

/-- The state the store judges a bank to be in (R162). -/
inductive BankState where
  | blank | valid | damaged
  deriving DecidableEq, Repr

/-- A bank's nonvolatile contents (R161), in the terms R162 judges them by: whether every byte reads as erased,
whether the format code reads as this part's, GENERATION, whether the check value equals the check computed over the
body as it reads, and the body read as an image. `body` means nothing in a bank that is not VALID. -/
structure NvBank where
  erased : Bool
  formatOk : Bool
  generation : BitVec 16
  checkOk : Bool
  body : Image
  deriving DecidableEq, Repr

/-- The store's own record of a bank (R162). -/
structure BankRec where
  state : BankState
  generation : BitVec 16
  deriving DecidableEq, Repr

/-- One item for each bank. -/
structure Banks (α : Type) where
  a : α
  b : α
  deriving DecidableEq, Repr

/-- The origin of the live configuration (R164). -/
inductive Source where
  | factory
  | bank (id : BankId)
  deriving DecidableEq, Repr

/-- The configuration store: the banks, the store's record of them, source and the damaged-at-start flags. -/
structure Store where
  nv : Banks NvBank
  record : Banks BankRec
  source : Source
  damagedAtStart : Banks Bool
  deriving DecidableEq, Repr

/-! ## Command engine and host port (08_host_port_and_command_engine.md) -/

/-- CMD_STATUS. -/
inductive CmdStatus where
  | idle | busy | done | error
  deriving DecidableEq, Repr

/-- The result codes (R154). -/
inductive Result where
  | ok | badCommand | badIndex | badValue | badState | poolFull | tooManySteps | buildOpen | noBuild
  | invalidPattern | noImage | storeFailed | readOnly
  deriving DecidableEq, Repr

/-- The phases of a commit that outlast its take (R172). In `seal`, `written` says whether the check value word has
been fully written. -/
inductive CommitPhase where
  | erase
  | program
  | verify
  | seal (written : Bool)
  deriving DecidableEq, Repr

/-- The command in flight (R152): a commit, a restore load, or an erase of bank `now` with the bank still to follow. -/
inductive LongCmd where
  | commit (phase : CommitPhase) (target : BankId) (generation : BitVec 16) (image : Image)
  | restore (source : Source)
  | erase (now : BankId) (following : Option BankId)
  deriving DecidableEq, Repr

/-- The command engine's state (section 8.4). -/
structure Engine where
  cmd : Byte
  status : CmdStatus
  result : Result
  detail : Byte
  arg0 : Byte
  arg1 : Byte
  arg2 : Byte
  buf : Buf
  inFlight : Option LongCmd
  deriving DecidableEq, Repr

/-- Where the bus transaction stands for the part (R145 to R148). -/
inductive Bus where
  /-- No transaction. -/
  | idle
  /-- A transaction that the part did not acknowledge. -/
  | other
  /-- A write transaction to the part, before its pointer byte. -/
  | writePointer
  /-- A write transaction to the part, after its pointer byte. -/
  | writeData
  /-- A read transaction from the part, before its first byte. -/
  | readFirst
  /-- A read transaction from the part, after its first byte. -/
  | readMore
  deriving DecidableEq, Repr

/-- The host port's state (sections 8.1 and 8.2). `ack` and `sent` are the model's own record of the part's answers
on SDA: its acknowledge of the last byte offered to it, and the byte it last transmitted. `snapshot` holds the bytes
of the snapshot not yet returned. -/
structure Port where
  inUse : BusAddr
  strap : Bool
  waiting : Option BusAddr
  pointer : RegAddr
  bus : Bus
  snapshot : Option (List Byte)
  ack : Bool
  sent : Option Byte
  deriving DecidableEq, Repr

/-! ## The state -/

/-- The state of the block. `pending` is the queue of commands that wait, first in, first out. -/
structure State where
  pending : List Instr
  mode : Mode
  rstLow : Bool
  resetCause : ResetCause
  time : Time
  scanner : Scanner
  globals : Globals
  chanCfg : Vector ChanCfg 12
  chanLive : Vector ChanLive 12
  patDef : Vector PatDef 24
  patState : Vector PatState 24
  poolFree : Nat
  build : Option PatIdx
  held : ChanSet
  trackers : Vector Tracker 6
  outCfg : Vector OutCfg 6
  outState : Vector OutState 6
  outLevel : BitVec 6
  report : Report
  flags : BitVec 6
  attnMask : BitVec 7
  engine : Engine
  port : Port
  store : Store
  deriving DecidableEq, Repr

/-- Reasons for the block to stop with a fault: there are none. The spec describes every error of the part as an
effect on its state. -/
inductive Fault where
  deriving DecidableEq, Repr

/-- Reasons for the model to refuse a command. -/
inductive Refusal where
  /-- Raised by `exec` alone, for a row that has no meaning yet; safe, since the model then claims nothing. No arm
  uses it. -/
  | notModelled (mnemonic : String)
  deriving DecidableEq, Repr

/-- An erased bank (R162 BLANK). Its `body` is a placeholder that no rule reads. -/
def NvBank.blank : NvBank :=
  { erased := true, formatOk := false, generation := 0, checkOk := false, body := factoryImage }

/-- R162: the store's record of a BLANK bank. -/
def BankRec.blank : BankRec := { state := .blank, generation := 0 }

/-- R160: the command engine at the end of a start-up load. -/
def Engine.reset : Engine :=
  { cmd := 0, status := .idle, result := .ok, detail := 0, arg0 := 0, arg1 := 0, arg2 := 0,
    buf := Vector.replicate 16 0, inFlight := none }

/-- The machine right after reset: the end of the power-on start-up load of a new part (both banks BLANK, so the
factory image), with ADSEL high and RST_N high (R168, R166, R10, R36, R60, R91, R125, R136, R141, R143, R160;
DESIGN CHOICE of the banks and of ADSEL, log 1). -/
def State.reset : State :=
  { pending := []
    mode := .running
    rstLow := false
    resetCause := .powerOn
    time := 0
    scanner := { running := true, lastScan := some 0, nextScan := some 16,
                 scan := some { list := List.finRange 12, left := List.finRange 12 } }
    globals := factoryGlobals
    chanCfg := Vector.replicate 12 factoryChanCfg
    chanLive := Vector.replicate 12 (ChanLive.zero .settling)
    patDef := Vector.replicate 24 PatDef.empty
    patState := Vector.replicate 24 .empty
    poolFree := 96
    build := none
    held := 0
    trackers := Vector.replicate 6 .free
    outCfg := Vector.replicate 6 factoryOutCfg
    outState := Vector.replicate 6 .off
    outLevel := 0
    report := { records := [], lost := 0 }
    flags := 0
    attnMask := 0x40#7
    engine := Engine.reset
    port := { inUse := 0x3A#7, strap := false, waiting := none, pointer := 0, bus := .idle, snapshot := none,
              ack := false, sent := none }
    store := { nv := { a := NvBank.blank, b := NvBank.blank }, record := { a := BankRec.blank, b := BankRec.blank },
               source := .factory, damagedAtStart := { a := false, b := false } } }

end Sys2Proof.Machine
end

