-- ==== Sys2Proof/Machine/Flags.lean ====
section
/-! DEFINITION. The event flags, the attention mask and ATN_N (07_report_queue_and_attention.md, sections 7.7 and
7.8). -/

namespace Sys2Proof.Machine

/-- The six event flags (R137). -/
inductive EventFlag where
  | cmdDone | cmdOverrun | channelAlert | trackerFull | queueLost | storeFault
  deriving DecidableEq, Repr

/-- The bit of a flag in FLAGS and in ATTN_MASK (section 10.2.2). -/
def EventFlag.mask (f : EventFlag) : BitVec 6 :=
  match f with
  | .cmdDone => 0x01#6
  | .cmdOverrun => 0x02#6
  | .channelAlert => 0x04#6
  | .trackerFull => 0x08#6
  | .queueLost => 0x10#6
  | .storeFault => 0x20#6

/-- R137: set a flag; a flag already set stays set. -/
def raiseFlag (f : EventFlag) (flags : BitVec 6) : BitVec 6 := flags ||| f.mask

/-- R138: clear each flag whose bit in the written byte is 1. -/
def clearFlags (b : Byte) (flags : BitVec 6) : BitVec 6 := flags &&& ~~~(b.setWidth 6)

/-- Whether a flag is set. -/
def flagSet (f : EventFlag) (flags : BitVec 6) : Bool := flags &&& f.mask != 0

/-- R137 on the whole state. -/
def State.raise (f : EventFlag) (s : State) : State := { s with flags := raiseFlag f s.flags }

/-- The bit of ATTN_MASK named QUEUE_READY (R139). -/
def queueReadyMask : BitVec 7 := 0x40#7

/-- R140: the condition on flags, mask and queue under which the attention logic asserts ATN_N. -/
def attention (flags : BitVec 6) (mask : BitVec 7) (records : List Record) : Bool :=
  flags &&& mask.setWidth 6 != 0 || (mask &&& queueReadyMask != 0 && !records.isEmpty)

/-- R140, R141: ATN_N is asserted (driven low) while the attention condition holds, and is released while RST_N is
held low, throughout a start-up load, and without supply. -/
def State.atnAsserted (s : State) : Bool :=
  s.mode == .running && attention s.flags s.attnMask s.report.records

end Sys2Proof.Machine
end

