-- ==== Sys2Proof/Machine/Ops.lean ====
section
/-! DEFINITION. The shared operations: time arithmetic, bytes, channel and pattern sets, the report queue, posting a
command's result, and the bytes of a bus transaction. -/

namespace Sys2Proof.Machine

/-! ## Time (R2) -/

/-- R2: the elapsed time from `a` to `b`. -/
def elapsed (a b : Time) : Nat := (b - a).toNat

/-- R2: `a` is before `b`. -/
def before (a b : Time) : Bool := 1 ≤ elapsed a b && elapsed a b < 2 ^ 31

/-- R2: the due time `d` is reached at `t`. -/
def reached (d t : Time) : Bool := d == t || before d t

/-- R2: the due time `d` is passed at `t`. -/
def passed (d t : Time) : Bool := before d t

/-- A time `n` milliseconds later, modulo 2^32. -/
def addMs (t : Time) (n : Nat) : Time := t + BitVec.ofNat 32 n

/-- R2: a time written into a 16-bit field. -/
def shortTime (t : Time) : Short := t.setWidth 16

/-- R2: the elapsed time from `a` to `b` as a 16-bit duration, saturating at 65,535. -/
def duration (a b : Time) : Short := if elapsed a b > 65535 then 65535 else BitVec.ofNat 16 (elapsed a b)

/-! ## Bytes (section 10.1) -/

/-- The two bytes of a 16-bit value, least significant first. -/
def bytes16 (v : Short) : List Byte := [v.setWidth 8, (v >>> 8).setWidth 8]

/-- The four bytes of a full time, least significant first. -/
def bytes32 (t : Time) : List Byte :=
  [t.setWidth 8, (t >>> 8).setWidth 8, (t >>> 16).setWidth 8, (t >>> 24).setWidth 8]

/-- A number as a byte. -/
def byteOf (n : Nat) : Byte := BitVec.ofNat 8 n

/-- A flag field (0, 1) as a byte. -/
def byteOfBool (b : Bool) : Byte := if b then 1 else 0

/-- A channel set as a two-byte item. -/
def bytesOfChans (c : ChanSet) : List Byte := bytes16 (c.setWidth 16)

/-- A pattern set as a three-byte item. -/
def bytesOfPats (p : PatSet) : List Byte := [p.setWidth 8, (p >>> 8).setWidth 8, (p >>> 16).setWidth 8]

/-! ## Sets -/

/-- The set that holds one channel. -/
def chanBit (c : Chan) : ChanSet := 1#12 <<< c.val

/-- The set that holds one pattern. -/
def patBit (p : PatIdx) : PatSet := 1#24 <<< p.val

/-- Whether channel `c` is in the set. -/
def hasChan (set : ChanSet) (c : Chan) : Bool := set.getLsbD c.val

/-- Whether pattern `p` is in the set. -/
def hasPat (set : PatSet) (p : PatIdx) : Bool := set.getLsbD p.val

/-- R43: two sets of channels have at least one channel in common. -/
def overlaps (a b : ChanSet) : Bool := a &&& b != 0

/-- `a` is a subset of `b`. -/
def subset (a b : ChanSet) : Bool := a &&& b == a

/-- All channels in ascending order. -/
def allChans : List Chan := List.finRange 12

/-- All patterns in ascending order. -/
def allPats : List PatIdx := List.finRange 24

/-- All tracker slots in ascending order. -/
def allSlots : List SlotIdx := List.finRange 6

/-- All outputs in ascending order. -/
def allOuts : List OutIdx := List.finRange 6

/-! ## What one event may read and what it may change

The work that an event, a due time or a cancel causes in the matcher, the output block, the queue and the event flags
reads `Env` and changes `Recog`. Everything else in State is out of its reach. -/

/-- What that work reads and leaves as it is: the current time, the pattern definitions, the OUTPUT records. -/
structure Env where
  now : Time
  defs : Vector PatDef 24
  outCfg : Vector OutCfg 6
  deriving DecidableEq, Repr

/-- What that work may change, and the records that it offers to the queue, in the order of R130. `ended` and
`claimed` live only while one event is handled: the patterns whose tracker ended during it (R66, condition 3) and the
union of the universes of the patterns that completed with CLAIM during it (R66, condition 4). -/
structure Recog where
  pstate : Vector PatState 24
  trackers : Vector Tracker 6
  held : ChanSet
  outs : Vector OutState 6
  flags : BitVec 6
  offers : List Record
  ended : PatSet
  claimed : ChanSet
  deriving DecidableEq, Repr

/-- The readable part of a state. -/
def State.env (s : State) : Env := { now := s.time, defs := s.patDef, outCfg := s.outCfg }

/-- The changeable part of a state, outside any event, with nothing offered. -/
def State.recog (s : State) : Recog :=
  { pstate := s.patState, trackers := s.trackers, held := s.held, outs := s.outState, flags := s.flags, offers := [],
    ended := 0, claimed := 0 }

/-- The state with its changeable part replaced; the records offered are not yet taken. -/
def State.putRecog (s : State) (w : Recog) : State :=
  { s with patState := w.pstate, trackers := w.trackers, held := w.held, outState := w.outs, flags := w.flags }

/-- R130: a record is offered to the queue. -/
def Recog.offer (r : Record) (w : Recog) : Recog := { w with offers := w.offers ++ [r] }

/-- A record offered under a condition (a REPORT bit). -/
def Recog.offerIf (b : Bool) (r : Record) (w : Recog) : Recog := if b then w.offer r else w

/-! ## The report queue (R129, R132) -/

/-- R129: append a record to a queue that has room; drop and count it otherwise. -/
def Report.push (r : Record) (q : Report) : Report :=
  if q.records.length < queueSize then { q with records := q.records ++ [r] }
  else { q with lost := min (q.lost + 1) 255 }

/-- R129 with its flag: a drop sets QUEUE_LOST. -/
def State.push (r : Record) (s : State) : State :=
  { s with report := s.report.push r
           flags := if s.report.records.length < queueSize then s.flags else raiseFlag .queueLost s.flags }

/-- R130: the offered records are pushed one after another. -/
def State.takeOffers (l : List Record) (s : State) : State := l.foldl (fun v r => v.push r) s

/-- R132, R133: remove the head; append a LOST record where LOST_COUNT is not 0. -/
def Report.pop (now : Time) (q : Report) : Report :=
  match q.records with
  | [] => q
  | _ :: rest =>
      if q.lost = 0 then { q with records := rest }
      else { records := rest ++ [.lost q.lost (shortTime now)], lost := 0 }

/-- R132: a byte written to QUEUE_CTL pops when its bit 0 is 1. -/
def popWork (b : Byte) (s : State) : State := if b.getLsbD 0 then { s with report := s.report.pop s.time } else s

/-- Do some work on the changeable part of a state, and push what it offers. -/
def State.work (s : State) (f : Env → Recog → Recog) : State :=
  (s.putRecog (f s.env s.recog)).takeOffers (f s.env s.recog).offers

/-! ## Tables -/

/-- The definition of a pattern. -/
def Env.pat (e : Env) (p : PatIdx) : PatDef := e.defs[p]

/-- Set a pattern's state. -/
def Recog.setPat (p : PatIdx) (st : PatState) (w : Recog) : Recog := { w with pstate := w.pstate.set p st }

/-- Set a tracker slot. -/
def Recog.setTracker (t : SlotIdx) (x : Tracker) (w : Recog) : Recog := { w with trackers := w.trackers.set t x }

/-- Set an output's state. -/
def Recog.setOut (o : OutIdx) (x : OutState) (w : Recog) : Recog := { w with outs := w.outs.set o x }

/-- Raise an event flag. -/
def Recog.raise (f : EventFlag) (w : Recog) : Recog := { w with flags := raiseFlag f w.flags }

/-- Set a channel's live record. -/
def State.setLive (s : State) (c : Chan) (l : ChanLive) : State := { s with chanLive := s.chanLive.set c l }

/-! ## Command results (R151 to R154) -/

/-- The code of a result (section 10.3.3). -/
def Result.code (r : Result) : Byte :=
  match r with
  | .ok => 0x00
  | .badCommand => 0x01
  | .badIndex => 0x02
  | .badValue => 0x03
  | .badState => 0x04
  | .poolFull => 0x05
  | .tooManySteps => 0x06
  | .buildOpen => 0x07
  | .noBuild => 0x08
  | .invalidPattern => 0x09
  | .noImage => 0x0A
  | .storeFailed => 0x0B
  | .readOnly => 0x0C

/-- R151, R152: post a command's result: CMD_RESULT, CMD_DETAIL, CMD_STATUS, the flag CMD_DONE, and no command in
flight from then on. -/
def State.postResult (s : State) (r : Result) (detail : Byte) : State :=
  { s with engine := { s.engine with result := r, detail := detail, inFlight := none,
                                     status := if r = .ok then .done else .error }
           flags := raiseFlag .cmdDone s.flags }

/-- Post OK (CMD_DETAIL 0). -/
def State.postOk (s : State) : State := s.postResult .ok 0

/-- R152: a long command is accepted: it is in flight, CMD_STATUS BUSY, CMD_RESULT OK, CMD_DETAIL 0. -/
def State.acceptLong (s : State) (c : LongCmd) : State :=
  { s with engine := { s.engine with status := .busy, result := .ok, detail := 0, inFlight := some c } }

/-! ## Bytes of a write transaction (R145, R147) -/

/-- R147: the port is on the bus. -/
def State.present (s : State) : Bool := s.mode == .running

/-- The part answers the last byte on SDA. -/
def State.setAck (s : State) (a : Bool) : State := { s with port := { s.port with ack := a } }

/-- R145: the register pointer advances by one, wrapping from 3Fh to 00h. -/
def State.bumpPointer (s : State) : State := { s with port := { s.port with pointer := s.port.pointer + 1 } }

/-- R145, R147: a data byte of a write transaction that reaches the register at `a`, whose action on it is `act`.
A byte of a transaction that is not a write to the part, or while the port is absent, is not acknowledged and has no
effect. Where the pointer byte is still due, or the pointer names another register, the command is not the happening
that its row names, and nothing changes (log 4). The pointer is advanced first; no `act` reads it, so the order cannot
be seen, and a start-up load that `act` begins is not disturbed by it. -/
def writeByteIf (here : RegAddr → Bool) (act : State → State) (s : State) : State :=
  if !s.present then s.setAck false
  else match s.port.bus with
    | .writeData => if here s.port.pointer then act (s.setAck true).bumpPointer else s
    | .writePointer => s
    | .idle | .other | .readFirst | .readMore => s.setAck false

/-- `writeByteIf` for the one register at `a`. -/
def writeByteAt (a : RegAddr) (act : State → State) (s : State) : State := writeByteIf (· == a) act s

/-- R132: a byte written to QUEUE_CTL (14h) as a byte of a write transaction. -/
def popByte (b : Byte) (s : State) : State := writeByteAt 0x14#6 (popWork b) s

/-- R134: `State.work` with the pop that falls between its pushes, if one does: the pop acts as one taken before the
records that are still to be pushed. -/
def State.workWith (s : State) (pop : Option PopBetween) (f : Env → Recog → Recog) : State :=
  match pop with
  | none => s.work f
  | some p =>
      let w := f s.env s.recog
      (popByte p.byte ((s.putRecog w).takeOffers (w.offers.take p.after))).takeOffers (w.offers.drop p.after)

/-- R150, R153: a byte written to CMD. While a long command is in flight the offer is refused and sets CMD_OVERRUN;
otherwise CMD takes the code and the command's work is done. -/
def takeCommand (code : Byte) (work : State → State) (s : State) : State :=
  if s.engine.inFlight.isSome then s.raise .cmdOverrun
  else work { s with engine := { s.engine with cmd := code } }

/-- A byte written to CMD (0Ch) as a byte of a write transaction. -/
def cmdByte (code : Byte) (work : State → State) (s : State) : State :=
  writeByteAt 0x0C#6 (takeCommand code work) s

end Sys2Proof.Machine
end

