-- ==== Sys2Proof/WellFormed.lean ====
section
/-! DEFINITION. Well-formed commands, configuration records and images: the ranges of the spec's field tables. An
operand whose range is its whole type (a raw count, a channel, an output, a byte) needs no check. -/

namespace Sys2Proof

/-- A command is well formed when a BAD_COMMAND byte is indeed no command code (R150). -/
def Instr.wf (i : Instr) : Bool :=
  match i with
  | .badCommand code => !isCommandCode code
  | _ => true

/-- Section 2.1: the ranges of a CHANNEL record. -/
def ChanCfg.wf (c : ChanCfg) : Bool :=
  16 ≤ c.touch && c.touch ≤ 2000 && c.hyst ≤ c.touch / 2 && 1 ≤ c.pressDb && c.pressDb ≤ 15 && 1 ≤ c.releaseDb
    && c.releaseDb ≤ 15 && c.noiseBand ≤ 255 && 1 ≤ c.trackInterval && c.trackInterval ≤ 255 && c.maxHold ≤ 255
    && c.driftLimit ≤ 1023

/-- R158: the ranges of the GLOBALS record. -/
def Globals.wf (g : Globals) : Bool :=
  8 ≤ g.scanPeriod && g.scanPeriod ≤ 255 && 0x08 ≤ g.address.toNat && g.address.toNat ≤ 0x77

/-- Section 3.2: the ranges of a pattern header (the other fields have their ranges by type). -/
def PatHeader.wf (h : PatHeader) : Bool := h.window ≤ 255 && h.pulseLen ≤ 255

/-- Whether exactly one bit of a channel set is set. -/
def ChanSet.isSingle (c : ChanSet) : Bool := c != 0 && c &&& (c - 1) == 0

/-- R42: the conditions on CHANNELS, EARLIEST, LATEST and SPAN that a step's KIND and position set, with the byte
ranges of section 3.3. -/
def Step.fieldsWf (pos : Nat) (s : Step) : Bool :=
  s.earliest ≤ 255 && s.latest ≤ 255 && s.span ≤ 255 &&
  match s.kind with
  | .chord => s.channels != 0 && 1 ≤ s.span &&
      (if pos = 0 then s.earliest == 0 && s.latest == 0 else 1 ≤ s.latest && s.earliest < s.latest)
  | .tap => ChanSet.isSingle s.channels && 1 ≤ s.span &&
      (if pos = 0 then s.earliest == 0 && s.latest == 0 else 1 ≤ s.latest && s.earliest < s.latest)
  | .hold => s.channels != 0 && s.earliest == 0 && s.latest == 0 && 1 ≤ s.span
  | .lift => s.channels != 0 && 1 ≤ s.latest && s.earliest < s.latest && s.span == 0
  | .quiet => s.earliest == 0 && s.latest == 0 && 1 ≤ s.span

/-- R42: a step list whose every step meets the conditions of its KIND and position. `before` is the list's steps
already passed, newest first. -/
def stepsWf : List Step → List Step → Bool
  | _, [] => true
  | before, s :: rest =>
      Step.fieldsWf before.length s
        && (match s.kind with
            | .chord | .tap => true
            | .hold | .lift => !before.isEmpty
            | .quiet => match before with
              | [] => false
              | b :: _ => b.kind != .quiet)
        && stepsWf (s :: before) rest

/-- R161: what an image records of a pattern is consistent. -/
def PatImage.wf (p : PatImage) : Bool :=
  p.header.wf && 1 ≤ p.steps.length && p.steps.length ≤ 8 && stepsWf [] p.steps

/-- The number of steps that an image's pattern entry holds. -/
def PatImage.count : Option PatImage → Nat
  | none => 0
  | some p => p.steps.length

/-- The total number of steps in an image (R161). -/
def Image.stepTotal (i : Image) : Nat := (i.pats.toList.map PatImage.count).sum

/-- R161: every value of an image is in range and its steps fit the pool. -/
def Image.wf (i : Image) : Bool :=
  i.globals.wf && i.chans.toList.all ChanCfg.wf
    && i.pats.toList.all (fun p => match p with
        | none => true
        | some q => q.wf)
    && i.stepTotal ≤ poolSize

end Sys2Proof
end

