-- ==== Sys2Proof/Machine/Operands.lean ====
section
/-! DEFINITION. The records of the record buffer and of the report queue as bytes (10_register_and_record_formats.md,
sections 10.3 to 10.5): how a command judges and reads a record in the buffer (R182), and how READ_RECORD and
QUEUE_HEAD show one (R183, R184). -/

namespace Sys2Proof.Machine

/-! ## Codes (sections 10.3.4 to 10.3.6) -/

/-- The code of a channel state. -/
def ChanState.code (x : ChanState) : Byte :=
  match x with
  | .off => 0 | .settling => 1 | .idle => 2 | .arming => 3 | .pressed => 4 | .releasing => 5 | .suspended => 6
  | .fault => 7

/-- The code of a pattern state. -/
def PatState.code (x : PatState) : Byte :=
  match x with
  | .empty => 0 | .building => 1 | .disabled => 2 | .ready => 3 | .active => 4 | .spent => 5 | .locked => 6

/-- The code of an output state. -/
def OutState.code (x : OutState) : Byte :=
  match x with
  | .off => 0 | .low => 1 | .high => 2 | .pulsing _ => 3 | .following _ => 4

/-- The code of a bank state. -/
def BankState.code (x : BankState) : Byte :=
  match x with
  | .blank => 0 | .valid => 1 | .damaged => 2

/-- The code of an abort reason. -/
def Reason.code (x : Reason) : Byte :=
  match x with
  | .early => 1 | .late => 2 | .expired => 3 | .split => 4 | .broken => 5 | .long => 6 | .holdLost => 7
  | .interrupted => 8 | .foreign => 9 | .channelLost => 10 | .evicted => 11 | .superseded => 12 | .cancelled => 13

/-- The code of an event cause. -/
def Cause.code (x : Cause) : Byte :=
  match x with
  | .natural => 0 | .disabled => 1 | .fault => 2 | .stuck => 3 | .halt => 4 | .recal => 5

/-- The code of a fault reason. -/
def FaultReason.code (x : FaultReason) : Byte :=
  match x with
  | .none => 0 | .isOpen => 1 | .short => 2 | .drift => 3

/-- The code of a step kind. -/
def kindCode (x : Kind) : Byte :=
  match x with
  | .chord => 1 | .tap => 2 | .hold => 3 | .lift => 4 | .quiet => 5

/-- The step kind that a byte names. -/
def kindOf (b : Byte) : Option Kind :=
  match b.toNat with
  | 1 => some .chord | 2 => some .tap | 3 => some .hold | 4 => some .lift | 5 => some .quiet | _ => none

/-- The code of REARM. -/
def rearmCode (x : Rearm) : Byte :=
  match x with
  | .once => 0 | .again => 1 | .afterRelease => 2

/-- The REARM that a byte names. -/
def rearmOf (b : Byte) : Option Rearm :=
  match b.toNat with
  | 0 => some .once | 1 => some .again | 2 => some .afterRelease | _ => none

/-- The code of ACTION_OP. -/
def opCode (x : ActionOp) : Byte :=
  match x with
  | .set => 0 | .clear => 1 | .toggle => 2 | .pulse => 3 | .follow => 4

/-- The ACTION_OP that a byte names. -/
def opOf (b : Byte) : Option ActionOp :=
  match b.toNat with
  | 0 => some .set | 1 => some .clear | 2 => some .toggle | 3 => some .pulse | 4 => some .follow | _ => none

/-- The code of ACTION_OUTPUT. -/
def actionOutCode (x : Option OutIdx) : Byte :=
  match x with
  | none => 0xFF
  | some o => byteOf o.val

/-- The ACTION_OUTPUT that a byte names: 0 to 5, or FFh for NONE. -/
def actionOutOf (b : Byte) : Option (Option OutIdx) :=
  if h : b.toNat < 6 then some (some ⟨b.toNat, h⟩) else if b.toNat = 0xFF then some none else none

/-- The PRIORITY that a byte names. -/
def priorityOf (b : Byte) : Option (Fin 8) := if h : b.toNat < 8 then some ⟨b.toNat, h⟩ else none

/-- The value of a flag field (0, 1). -/
def boolOf (b : Byte) : Option Bool :=
  match b.toNat with
  | 0 => some false | 1 => some true | _ => none

/-- The code of a STEP_DUE kind; 0 where there is none. -/
def dueCode (x : Option (DueKind × Time)) : Byte :=
  match x with
  | none => 0
  | some (.late, _) => 1 | some (.split, _) => 2 | some (.long, _) => 3 | some (.holdEnd, _) => 4
  | some (.quietEnd, _) => 5

/-! ## Reading fields of the buffer (R182) -/

/-- The 16-bit value of the two bytes at offsets k and k + 1. -/
def word16 (lo hi : Byte) : Nat := lo.toNat + 256 * hi.toNat

/-- The channel set of a two-byte field; none where one of bits 12 to 15 is set (R182). -/
def chansOf (lo hi : Byte) : Option ChanSet :=
  if hi.toNat < 16 then some (BitVec.ofNat 12 (word16 lo hi)) else none

/-- The lowest-numbered check that fails. -/
def firstFail : List (Nat × Bool) → Option Nat
  | [] => none
  | (n, good) :: rest => if good then firstFail rest else some n

/-- The outcome of judging a record in the buffer: the record, or the number of its lowest-numbered failing field
(R182). -/
inductive Judged (α : Type) where
  | good (r : α)
  | bad (field : Nat)
  deriving DecidableEq, Repr

/-- Judge a record by its numbered checks. -/
def judge {α : Type} (checks : List (Nat × Bool)) (r : α) : Judged α :=
  match firstFail checks with
  | none => .good r
  | some n => .bad n

/-- Whether `lo ≤ n ≤ hi`. -/
def within (lo n hi : Nat) : Bool := lo ≤ n && n ≤ hi

/-- R158: a GLOBALS record in the buffer (section 10.4.1). -/
def readGlobals (b : Buf) : Judged Globals :=
  judge [(1, within 8 b[0].toNat 255), (2, (boolOf b[1]).isSome), (3, within 0x08 b[2].toNat 0x77)]
    { scanPeriod := b[0].toNat, scanAtStart := b[1] == 1, address := b[2].setWidth 7 }

/-- R30: a CHANNEL record in the buffer (section 10.4.2). -/
def readChannel (b : Buf) : Judged ChanCfg :=
  judge [(1, (boolOf b[0]).isSome), (2, (boolOf b[1]).isSome), (3, within 16 (word16 b[2] b[3]) 2000),
         (4, within 0 (word16 b[4] b[5]) (word16 b[2] b[3] / 2)), (5, within 1 b[6].toNat 15),
         (6, within 1 b[7].toNat 15), (7, true), (8, within 1 b[9].toNat 255), (9, true),
         (10, within 0 (word16 b[11] b[12]) 1023)]
    { enable := b[0] == 1, report := b[1] == 1, touch := word16 b[2] b[3], hyst := word16 b[4] b[5],
      pressDb := b[6].toNat, releaseDb := b[7].toNat, noiseBand := b[8].toNat, trackInterval := b[9].toNat,
      maxHold := b[10].toNat, driftLimit := word16 b[11] b[12] }

/-- R112: an OUTPUT record in the buffer (section 10.4.4). -/
def readOutput (b : Buf) : Judged OutCfg :=
  judge [(1, (boolOf b[0]).isSome), (2, (boolOf b[1]).isSome), (3, (boolOf b[2]).isSome), (4, (boolOf b[3]).isSome),
         (5, (boolOf b[4]).isSome), (6, (boolOf b[5]).isSome)]
    { enable := b[0] == 1, drive := if b[1] = 1 then .openDrain else .pushPull,
      polarity := if b[2] = 1 then .activeLow else .activeHigh, mode := if b[3] = 1 then .host else .pattern,
      retrigger := if b[4] = 1 then .keep else .extend, initialHigh := b[5] == 1 }

/-- R40: a pattern header in the buffer (section 10.4.5, offsets 0 to 12). -/
def readHeader (b : Buf) : Judged PatHeader :=
  judge [(1, (priorityOf b[0]).isSome), (2, true), (3, (boolOf b[2]).isSome), (4, (boolOf b[3]).isSome),
         (5, (boolOf b[4]).isSome), (6, (boolOf b[5]).isSome), (7, (boolOf b[6]).isSome), (8, (rearmOf b[7]).isSome),
         (9, (boolOf b[8]).isSome), (10, true), (11, (actionOutOf b[10]).isSome), (12, (opOf b[11]).isSome),
         (13, true)]
    { priority := (priorityOf b[0]).getD 0, tag := b[1], strict := b[2] == 1, claim := b[3] == 1,
      defer := b[4] == 1, reportDone := b[5] == 1, reportAbort := b[6] == 1, rearm := (rearmOf b[7]).getD .once,
      startEnabled := b[8] == 1, window := b[9].toNat, actionOut := (actionOutOf b[10]).getD none,
      actionOp := (opOf b[11]).getD .set, pulseLen := b[12].toNat }

/-- R42: whether a step of kind `k` may stand at the end of the list `steps`. -/
def kindAllowed (k : Kind) (steps : List Step) : Bool :=
  match k with
  | .chord | .tap => true
  | .hold | .lift => !steps.isEmpty
  | .quiet => match steps.getLast? with
    | none => false
    | some b => b.kind != .quiet

/-- R42: the checks of fields 2 to 5 for a step of kind `k` at position `pos`. -/
def stepChecks (k : Kind) (pos : Nat) (chans : Option ChanSet) (e l sp : Nat) : List (Nat × Bool) :=
  let set := chans.getD 0
  match k with
  | .chord => [(2, chans.isSome && set != 0), (3, pos != 0 || e == 0),
               (4, if pos = 0 then l == 0 else 1 ≤ l && e < l), (5, 1 ≤ sp)]
  | .tap => [(2, chans.isSome && ChanSet.isSingle set), (3, pos != 0 || e == 0),
             (4, if pos = 0 then l == 0 else 1 ≤ l && e < l), (5, 1 ≤ sp)]
  | .hold => [(2, chans.isSome && set != 0), (3, e == 0), (4, l == 0), (5, 1 ≤ sp)]
  | .lift => [(2, chans.isSome && set != 0), (3, true), (4, 1 ≤ l && e < l), (5, sp == 0)]
  | .quiet => [(2, chans.isSome), (3, e == 0), (4, l == 0), (5, 1 ≤ sp)]

/-- R42: a step record in the buffer (section 10.4.6), judged at the end of the list `steps`. Fields 2 to 5 are
checked only when field 1 meets its condition. -/
def readStep (b : Buf) (steps : List Step) : Judged Step :=
  match kindOf b[0] with
  | none => .bad 1
  | some k =>
      if kindAllowed k steps then
        judge (stepChecks k steps.length (chansOf b[1] b[2]) b[3].toNat b[4].toNat b[5].toNat)
          { kind := k, channels := (chansOf b[1] b[2]).getD 0, earliest := b[3].toNat, latest := b[4].toNat,
            span := b[5].toNat }
      else .bad 1

/-! ## Filling the buffer (R183) -/

/-- The 16 bytes of a record: its bytes in order, and 00h at every further offset. -/
def fillBuf (l : List Byte) : Buf := Vector.ofFn fun i => l.getD i.val 0

/-- Section 10.4.1. -/
def showGlobals (g : Globals) : Buf :=
  fillBuf [byteOf g.scanPeriod, byteOfBool g.scanAtStart, g.address.setWidth 8]

/-- A number as a two-byte item. -/
def bytesOfNat16 (n : Nat) : List Byte := bytes16 (BitVec.ofNat 16 n)

/-- Section 10.4.2. -/
def showChannel (c : ChanCfg) : Buf :=
  fillBuf ([byteOfBool c.enable, byteOfBool c.report] ++ bytesOfNat16 c.touch ++ bytesOfNat16 c.hyst
    ++ [byteOf c.pressDb, byteOf c.releaseDb, byteOf c.noiseBand, byteOf c.trackInterval, byteOf c.maxHold]
    ++ bytesOfNat16 c.driftLimit)

/-- Section 10.4.3. -/
def showLive (l : ChanLive) : Buf :=
  fillBuf ([l.state.code] ++ bytesOfNat16 l.raw ++ bytesOfNat16 l.baseline ++ bytesOfNat16 l.reference
    ++ bytes16 (BitVec.ofInt 16 l.signal) ++ [byteOf l.debounce, byteOf l.satCount, l.faultReason.code]
    ++ bytes16 (shortTime l.pressTime) ++ [byteOf l.settleCount])

/-- PULSE_DUE as a short time, 0 unless PULSING (R115). -/
def OutState.dueShort (o : OutState) : Short :=
  match o with
  | .pulsing due => shortTime due
  | .off | .low | .high | .following _ => 0

/-- FOLLOW_SET, {} unless FOLLOWING (R115). -/
def OutState.followSet (o : OutState) : ChanSet :=
  match o with
  | .following set => set
  | .off | .low | .high | .pulsing _ => 0

/-- Section 10.4.4. -/
def showOutput (c : OutCfg) (o : OutState) : Buf :=
  fillBuf ([byteOfBool c.enable, byteOfBool (c.drive == .openDrain), byteOfBool (c.polarity == .activeLow),
      byteOfBool (c.mode == .host), byteOfBool (c.retrigger == .keep), byteOfBool c.initialHigh, 0, 0, o.code]
    ++ bytes16 o.dueShort ++ bytesOfChans o.followSet)

/-- The thirteen header bytes of section 10.4.5. -/
def headerBytes (h : PatHeader) : List Byte :=
  [byteOf h.priority.val, h.tag, byteOfBool h.strict, byteOfBool h.claim, byteOfBool h.defer,
    byteOfBool h.reportDone, byteOfBool h.reportAbort, rearmCode h.rearm, byteOfBool h.startEnabled, byteOf h.window,
    actionOutCode h.actionOut, opCode h.actionOp, byteOf h.pulseLen]

/-- Section 10.4.5: the header, then STATE in bits 0 to 3 and STEP_COUNT in bits 4 to 7 of offset 13, then
UNIVERSE. -/
def showPattern (d : PatDef) (st : PatState) : Buf :=
  fillBuf (headerBytes d.header ++ [st.code ||| (byteOf d.steps.length <<< 4)] ++ bytesOfChans d.univ)

/-- Section 10.4.6. -/
def showStep (x : Step) : Buf :=
  fillBuf ([kindCode x.kind] ++ bytesOfChans x.channels ++ [byteOf x.earliest, byteOf x.latest, byteOf x.span])

/-- The presence byte of a WAITING tracker (section 10.4.7). -/
def presence (w : Waiting) : Byte :=
  dueCode w.stepDue ||| (if w.overallDue.isSome then 0x10 else 0) ||| (if w.chordStart.isSome then 0x20 else 0)
    ||| (if w.tapPress.isSome then 0x40 else 0)

/-- An optional time as a short time, 0 where it is absent (R183). -/
def optShort (t : Option Time) : Short :=
  match t with
  | none => 0
  | some x => shortTime x

/-- Section 10.4.7. -/
def showTracker (t : Tracker) : Buf :=
  match t with
  | .free => fillBuf []
  | .waiting w =>
      fillBuf ([1, byteOf w.pattern.val, byteOf w.step, presence w] ++ bytes16 (shortTime w.startTime)
        ++ bytes16 (shortTime w.stepStart) ++ bytesOfChans w.collected
        ++ bytes16 (if w.chordStart.isSome then optShort w.chordStart else optShort w.tapPress)
        ++ bytes16 (optShort (w.stepDue.map Prod.snd)) ++ bytes16 (optShort w.overallDue))
  | .pending p =>
      fillBuf ([2, byteOf p.pattern.val, byteOf p.step, 0] ++ bytes16 (shortTime p.startTime)
        ++ bytes16 (shortTime p.stepStart) ++ bytes16 (shortTime p.endTime) ++ bytesOfPats p.blockers)

/-- The code of a current-bank item: 0 none, 1 A, 2 B. -/
def bankCode (b : Option BankId) : Byte :=
  match b with
  | none => 0 | some .a => 1 | some .b => 2

/-- The code of the source item: 0 FACTORY, 1 A, 2 B. -/
def Source.code (x : Source) : Byte :=
  match x with
  | .factory => 0 | .bank .a => 1 | .bank .b => 2

/-- R163: bank X with generation `x` is newer than bank Y with generation `y`. -/
def newer (x y : BitVec 16) : Bool := within 1 (x - y).toNat 32767

/-- R163: the current bank, from the store's record. -/
def Store.current (st : Store) : Option BankId :=
  match st.record.a.state, st.record.b.state with
  | .valid, .valid => if newer st.record.b.generation st.record.a.generation then some .b else some .a
  | .valid, _ => some .a
  | _, .valid => some .b
  | _, _ => none

/-- Section 10.4.8. -/
def showStore (st : Store) : Buf :=
  fillBuf ([st.record.a.state.code] ++ bytes16 st.record.a.generation ++ [st.record.b.state.code]
    ++ bytes16 st.record.b.generation ++ [bankCode st.current, st.source.code,
      byteOfBool st.damagedAtStart.a ||| (byteOfBool st.damagedAtStart.b <<< 1)])

/-! ## Queue records (section 10.5) -/

/-- The event code of a CHANNEL record, and its cause or reason code (section 10.5.4). -/
def ChanNote.codes (n : ChanNote) : List Byte :=
  match n with
  | .press => [0, Cause.natural.code]
  | .release cause => [1, cause.code]
  | .stuck => [2, Cause.stuck.code]
  | .fault reason => [3, reason.code]

/-- R184: the eight bytes of a queue record. -/
def Record.bytes (r : Record) : List Byte :=
  match r with
  | .recognized p tag start stop deferred skipped =>
      [0x01, byteOf p.val, tag] ++ bytes16 start ++ bytes16 stop
        ++ [byteOfBool deferred ||| (byteOfBool skipped <<< 1)]
  | .aborted p tag step reason time => [0x02, byteOf p.val, tag, byteOf step, reason.code] ++ bytes16 time ++ [0]
  | .refused p tag time => [0x03, byteOf p.val, tag] ++ bytes16 time ++ [0, 0, 0]
  | .channel c note time dur => [0x04, byteOf c.val] ++ note.codes ++ bytes16 time ++ bytes16 dur
  | .lost count time => [0x05, byteOf count] ++ bytes16 time ++ [0, 0, 0, 0]

/-- R131, R184: the eight bytes of QUEUE_HEAD. -/
def Report.headBytes (q : Report) : List Byte :=
  match q.records with
  | [] => List.replicate 8 0
  | r :: _ => r.bytes

end Sys2Proof.Machine
end

