-- ==== Sys2Proof/Machine/Outputs.lean ====
section
/-! DEFINITION. The output block (06_outputs.md): the state a record gives, the pin, pattern actions, pulse ends,
follows and host levels, with the meanings of PULSE_END and OUT_LEVEL_WRITE. -/

namespace Sys2Proof.Machine

/-- R113: the state that an OUTPUT record gives its output. -/
def outFromRecord (c : OutCfg) : OutState := if !c.enable then .off else if c.initialHigh then .high else .low

/-- How a pin is driven (R114). -/
inductive Pin where
  | driveHigh | driveLow | released | highZ
  deriving DecidableEq, Repr

/-- R114, R115: whether a state is active. -/
def OutState.active (o : OutState) : Bool :=
  match o with
  | .off | .low => false
  | .high | .pulsing _ | .following _ => true

/-- R114: the drive of a pin. -/
def pinDrive (c : OutCfg) (o : OutState) : Pin :=
  match o, c.drive, c.polarity with
  | .off, _, _ => .highZ
  | o, .openDrain, _ => if o.active then .driveLow else .released
  | o, .pushPull, .activeHigh => if o.active then .driveHigh else .driveLow
  | o, .pushPull, .activeLow => if o.active then .driveLow else .driveHigh

/-- The pin of output `o`. -/
def State.pinDrive (s : State) (o : OutIdx) : Pin := Machine.pinDrive s.outCfg[o] s.outState[o]

/-! ## Pattern actions -/

/-- A pattern's action as the matcher hands it on (R96). -/
structure Action where
  out : OutIdx
  op : ActionOp
  pulseLen : Nat
  lastSet : ChanSet
  time : Time
  deriving DecidableEq, Repr

/-- R120: the follow set that a FOLLOW would form. -/
def followSetOf (a : Action) (held : ChanSet) : ChanSet := a.lastSet &&& held

/-- R96, R116: whether an action is skipped. The matcher's judgement for the RECOGNIZED record and the output block's
own are this one function. -/
def actionSkipped (c : OutCfg) (o : OutState) (a : Action) (held : ChanSet) : Bool :=
  !c.enable || o == .off || c.mode == .host || (a.op == .follow && followSetOf a held == 0)

/-- R118: the pulse end. -/
def pulseEndOf (a : Action) : Time := addMs a.time (a.pulseLen * 10)

/-- R118, R119: PULSING until `due`, and on to LOW at once where `due` has already been reached. -/
def startPulse (now due : Time) : OutState := if reached due now then .low else .pulsing due

/-- R117, R118, R120: the state to which an action that is not skipped takes an output. -/
def applyAction (now : Time) (c : OutCfg) (o : OutState) (a : Action) (held : ChanSet) : OutState :=
  match a.op with
  | .set => .high
  | .clear => .low
  | .toggle => if o.active then .low else .high
  | .pulse => match o, c.retrigger with
    | .pulsing due, .keep => .pulsing due
    | _, _ => startPulse now (pulseEndOf a)
  | .follow => .following (followSetOf a held)

/-- R116: an action reaches the output block. -/
def Recog.act (e : Env) (a : Action) (w : Recog) : Recog :=
  if actionSkipped e.outCfg[a.out] w.outs[a.out] a w.held then w
  else w.setOut a.out (applyAction e.now e.outCfg[a.out] w.outs[a.out] a w.held)

/-- R121: what a RELEASE does to one output. -/
def endFollow (held : ChanSet) (o : OutState) : OutState :=
  match o with
  | .following set => if overlaps set held then o else .low
  | .off | .low | .high | .pulsing _ => o

/-- R121: what a RELEASE does to the outputs, once the matcher has applied it. -/
def Recog.endFollows (w : Recog) : Recog := { w with outs := Vector.ofFn fun i => endFollow w.held w.outs[i] }

/-! ## Restore (R126) -/

/-- R126: the state of an output at the take of a restore. -/
def outAtRestore (o : OutState) : OutState :=
  match o with
  | .pulsing _ | .following _ => .high
  | .off | .low | .high => o

/-! ## Pulse ends -/

/-- R119: a PULSING output whose due time has been reached goes to LOW. -/
def endPulse (now : Time) (o : OutState) : OutState :=
  match o with
  | .pulsing due => if reached due now then .low else o
  | .off | .low | .high | .following _ => o

/-- PULSE_END (R119): the time base has reached PULSE_DUE of output `out`. -/
def execPulseEnd (out : OutIdx) (s : State) : Host.Outcome State Fault Refusal :=
  .next { s with outState := s.outState.set out (endPulse s.time s.outState[out]) }

/-! ## Host levels -/

/-- Whether a restore load is in progress (R11, R126). -/
def State.restoring (s : State) : Bool :=
  match s.engine.inFlight with
  | some (.restore _) => true
  | _ => false

/-- R123: what a write of OUT_LEVEL does to one output. -/
def applyLevel (level : BitVec 6) (i : OutIdx) (c : OutCfg) (o : OutState) : OutState :=
  if c.enable && c.mode == .host && o != .off then (if level.getLsbD i.val then .high else .low) else o

/-- R123, R126: the byte is stored, and applied except while a restore load runs. -/
def writeOutLevel (b : Byte) (s : State) : State :=
  let level := b.setWidth 6
  let stored := { s with outLevel := level }
  if s.restoring then stored
  else { stored with outState := Vector.ofFn fun i => applyLevel level i s.outCfg[i] s.outState[i] }

/-- OUT_LEVEL_WRITE (R123): a data byte for OUT_LEVEL (16h). -/
def execOutLevelWrite (b : Byte) (s : State) : Host.Outcome State Fault Refusal :=
  .next (writeByteAt 0x16#6 (writeOutLevel b) s)

end Sys2Proof.Machine
end

