-- ==== Sys2Proof/Machine/Steps.lean ====
section
/-! DEFINITION. One tracker's progress through its steps (04_trackers_and_step_matching.md, sections 4.3 to 4.6): how
a step becomes current, what its initial view finds, and what an event or a due time makes of it. Nothing here
touches the state: each function takes a WAITING record and answers what becomes of it. -/

namespace Sys2Proof.Machine

/-- What becomes of a WAITING tracker (R88): it stays WAITING with a record, perhaps on a later step; it becomes a
candidate with completion time `te`; or it aborts, with the record that names the failing step. -/
inductive Progress where
  | stay (w : Waiting)
  | candidate (w : Waiting) (te : Time)
  | abort (w : Waiting) (reason : Reason) (time : Time)
  deriving DecidableEq, Repr

/-- The channel bits of the quiet set of a QUIET (R76): its own set, or the UNIVERSE where that is {}. -/
def quietSet (set univ : ChanSet) : ChanSet := if set = 0 then univ else set

/-- R68, step 3: the earliest time of a step that became current at `t0`. -/
def earliestTime (x : Step) (t0 : Time) : Time := addMs t0 (x.earliest * 10)

/-- R68, step 3: the deadline of a step that became current at `t0`. -/
def deadline (x : Step) (t0 : Time) : Time := addMs t0 (x.latest * 10)

/-- The time at which the SPAN of a step that counts from `t` ends. -/
def spanEnd (x : Step) (t : Time) : Time := addMs t (x.span * 10)

/-- R68, steps 1 and 2: a step with index `idx` becomes current at `t0`. -/
def Waiting.onStep (w : Waiting) (idx : Nat) (t0 : Time) : Waiting :=
  { w with step := idx, stepStart := t0, collected := 0, chordStart := none, tapPress := none, stepDue := none }

/-- What a step's initial view finds (R68, step 4). -/
inductive View where
  | waits (w : Waiting)
  | satisfied (w : Waiting)
  | lost (w : Waiting)
  deriving DecidableEq, Repr

/-- R71, R73, R74, R75, R76: the initial view of step `x`, current at `t0` in the record `w`. `lost` is a HOLD whose
set is not all held. -/
def initialView (x : Step) (held : ChanSet) (t0 : Time) (w : Waiting) : View :=
  match x.kind with
  | .chord =>
      let got := x.channels &&& held
      if got = x.channels then .satisfied { w with collected := got }
      else if got = 0 then .waits { w with stepDue := some (.late, deadline x t0) }
      else .waits { w with collected := got, chordStart := some t0, stepDue := some (.split, spanEnd x t0) }
  | .tap => .waits { w with stepDue := some (.late, deadline x t0) }
  | .hold =>
      if subset x.channels held then .waits { w with stepDue := some (.holdEnd, spanEnd x t0) } else .lost w
  | .lift =>
      if overlaps x.channels held then .waits { w with stepDue := some (.late, deadline x t0) } else .satisfied w
  | .quiet => .waits { w with stepDue := some (.quietEnd, spanEnd x t0) }

/-- R68, R69: the steps `rest`, the first of which has index `idx`, become current one after another at `t0` for as
long as each is found satisfied; where none is left, the last step was satisfied and the tracker is a candidate. A
step found satisfied with EARLIEST above 0 aborts with EARLY. -/
def enterSteps (held : ChanSet) (t0 : Time) : List Step → Nat → Waiting → Progress
  | [], _, w => .candidate w t0
  | x :: rest, idx, w =>
      match initialView x held t0 (w.onStep idx t0) with
      | .waits w' => .stay w'
      | .lost w' => .abort w' .holdLost t0
      | .satisfied w' => if x.earliest = 0 then enterSteps held t0 rest (idx + 1) w' else .abort w' .early t0

/-- R69: the current step is satisfied at `t`. -/
def advance (d : PatDef) (held : ChanSet) (t : Time) (w : Waiting) : Progress :=
  enterSteps held t (d.steps.drop (w.step + 1)) (w.step + 1) w

/-! ## Start (R67) -/

/-- R67, steps 2 to 4, before step 0 is set up. -/
def newWaiting (d : PatDef) (p : PatIdx) (t : Time) : Waiting :=
  { pattern := p, step := 0, startTime := t, stepStart := t, collected := 0, chordStart := none, tapPress := none,
    stepDue := none, overallDue := if d.header.window = 0 then none else some (addMs t (d.header.window * 100)) }

/-- R67: step 0 set up at START_TIME `t`. A CHORD begins its window and takes the held members, a TAP takes the press
as its TAP press. A definition made through the commands has no other kind there (R42); such a step takes its initial
view like a later one. -/
def startProgress (d : PatDef) (held : ChanSet) (p : PatIdx) (t : Time) : Progress :=
  let w := newWaiting d p t
  match d.steps with
  | [] => .candidate w t
  | x :: _ =>
      match x.kind with
      | .chord =>
          let got := x.channels &&& held
          if got = x.channels then advance d held t { w with collected := got, chordStart := some t }
          else .stay { w with collected := got, chordStart := some t, stepDue := some (.split, spanEnd x t) }
      | .tap => .stay { w with tapPress := some t, stepDue := some (.long, spanEnd x t) }
      | .hold | .lift | .quiet => enterSteps held t d.steps 0 w

/-! ## Events (R70 to R79) -/

/-- R70: the judged time of an event stamped `t` on a step current since `t0`. -/
def judgedTime (t t0 : Time) : Time := if before t t0 then t0 else t

/-- R78: an unexpected press. -/
def unexpected (d : PatDef) (j : Time) (w : Waiting) : Progress :=
  if d.header.strict then .abort w .foreign j else .stay w

/-- R72, R73, R74, R75, R76, R78: a natural press of `c`, judged at `j`. -/
def onPress (d : PatDef) (x : Step) (held : ChanSet) (c : Chan) (j : Time) (w : Waiting) : Progress :=
  match x.kind with
  | .chord =>
      if hasChan x.channels c && !hasChan w.collected c then
        if before j (earliestTime x w.stepStart) then .abort w .early j
        else
          let w' := if w.collected = 0 then
              { w with collected := chanBit c, chordStart := some j, stepDue := some (.split, spanEnd x j) }
            else { w with collected := w.collected ||| chanBit c }
          if w'.collected = x.channels then advance d held j w' else .stay w'
      else unexpected d j w
  | .tap =>
      if hasChan x.channels c && w.tapPress.isNone then
        if before j (earliestTime x w.stepStart) then .abort w .early j
        else .stay { w with tapPress := some j, stepDue := some (.long, spanEnd x j) }
      else unexpected d j w
  | .hold | .lift => unexpected d j w
  | .quiet => if hasChan (quietSet x.channels d.univ) c then .abort w .interrupted j else unexpected d j w

/-- R72, R73, R74, R75, R76: a natural release of `c`, judged at `j`; `held` is the held set after it. -/
def onRelease (d : PatDef) (x : Step) (held : ChanSet) (c : Chan) (j : Time) (w : Waiting) : Progress :=
  match x.kind with
  | .chord => if hasChan w.collected c then .abort w .broken j else .stay w
  | .tap => if hasChan x.channels c && w.tapPress.isSome then advance d held j w else .stay w
  | .hold => if hasChan x.channels c then .abort w .holdLost j else .stay w
  | .lift =>
      if hasChan x.channels c && !overlaps x.channels held then
        if before j (earliestTime x w.stepStart) then .abort w .early j else advance d held j w
      else .stay w
  | .quiet => .stay w

/-- R88: what an event makes of a WAITING tracker of the pattern defined by `d`; `held` is the held set after stage
2. A synthetic event is a RELEASE and is judged against the UNIVERSE alone (R79). -/
def offerEvent (d : PatDef) (held : ChanSet) (ev : Event) (w : Waiting) : Progress :=
  let j := judgedTime ev.time w.stepStart
  if ev.cause = .natural then
    match d.steps[w.step]? with
    | none => .stay w
    | some x => if ev.press then onPress d x held ev.chan j w else onRelease d x held ev.chan j w
  else if hasChan d.univ ev.chan then .abort w .channelLost j
  else .stay w

/-! ## Due times (R83 to R86) -/

/-- Whether a kind of STEP_DUE is satisfying (R63). -/
def DueKind.satisfying (k : DueKind) : Bool :=
  match k with
  | .holdEnd | .quietEnd => true
  | .late | .split | .long => false

/-- R83: whether the effective instant of a due time `d` is at or before `t`. -/
def dueAt (satisfying : Bool) (d t : Time) : Bool := if satisfying then reached d t else passed d t

/-- R72, R73, R74, R75, R76: STEP_DUE of kind `k` at `t` is taken. -/
def takeStepDue (d : PatDef) (held : ChanSet) (k : DueKind) (t : Time) (w : Waiting) : Progress :=
  match k with
  | .late => .abort w .late t
  | .split => .abort w .split t
  | .long => .abort w .long t
  | .holdEnd | .quietEnd => advance d held t w

end Sys2Proof.Machine
end

