-- ==== Sys2Proof/Machine/Matcher.lean ====
section
/-! DEFINITION. The matcher: endings, resolution, completion, claims, releases and cascades
(05_priority_claims_and_deferred_completion.md), due times in their order, and the five stages of one event
(04_trackers_and_step_matching.md, sections 4.7 to 4.9), with the meaning of DUE_TIME_TAKEN. -/

namespace Sys2Proof.Machine

/-! ## What is bound to what -/

/-- The pattern bound to a slot. -/
def Tracker.pattern (t : Tracker) : Option PatIdx :=
  match t with
  | .free => none
  | .waiting w => some w.pattern
  | .pending p => some p.pattern

/-- The STEP of a slot. -/
def Tracker.step (t : Tracker) : Nat :=
  match t with
  | .free => 0
  | .waiting w => w.step
  | .pending p => p.step

/-- START_TIME of a slot. -/
def Tracker.startTime (t : Tracker) : Time :=
  match t with
  | .free => 0
  | .waiting w => w.startTime
  | .pending p => p.startTime

/-- Whether a slot is FREE. -/
def Tracker.isFree (t : Tracker) : Bool :=
  match t with
  | .free => true
  | .waiting _ | .pending _ => false

/-- Whether a slot is WAITING. -/
def Tracker.isWaiting (t : Tracker) : Bool :=
  match t with
  | .waiting _ => true
  | .free | .pending _ => false

/-- Whether a slot is PENDING. -/
def Tracker.isPending (t : Tracker) : Bool :=
  match t with
  | .pending _ => true
  | .free | .waiting _ => false

/-- Priority of a pattern. -/
def Env.prio (e : Env) (p : PatIdx) : Fin 8 := (e.pat p).header.priority

/-- Priority-then-index order over all patterns (00_scope.md, section 4.3): highest PRIORITY first and, among equal
priorities, lowest index first. -/
def Env.patOrder (e : Env) : List PatIdx :=
  (List.finRange 8).reverse.flatMap fun pr => allPats.filter fun p => e.prio p == pr

/-- The slots bound to patterns, in priority-then-index order of their patterns. -/
def slotOrder (e : Env) (trackers : Vector Tracker 6) : List SlotIdx :=
  e.patOrder.flatMap fun p => allSlots.filter fun t => trackers[t].pattern == some p

/-! ## Ending a tracker (R80, R97, R99) -/

/-- R80, steps 1 and 2: the ABORTED record is offered if REPORT_ABORT is 1, the slot is freed, and the pattern takes
the state `st`. A FREE slot has nothing to end. -/
def endSlot (e : Env) (t : SlotIdx) (reason : Reason) (time : Time) (st : PatState) (w : Recog) : Recog :=
  match w.trackers[t].pattern with
  | none => w
  | some p =>
      let h := (e.pat p).header
      let w1 := w.offerIf h.reportAbort (.aborted p h.tag w.trackers[t].step reason (shortTime time))
      let w2 := (w1.setTracker t .free).setPat p st
      { w2 with ended := w2.ended ||| patBit p }

/-- R99: a tracker with the patterns `gone` removed from its BLOCKERS. -/
def unblock (gone : PatSet) (t : Tracker) : Tracker :=
  match t with
  | .pending p => .pending { p with blockers := p.blockers &&& ~~~gone }
  | .free | .waiting _ => t

/-- R99: the removal of `gone` empties this tracker's BLOCKERS set. -/
def isReleasedBy (gone : PatSet) (t : Tracker) : Bool :=
  match t with
  | .pending p => p.blockers != 0 && p.blockers &&& ~~~gone == 0
  | .free | .waiting _ => false

/-- A PENDING tracker with nothing left in its BLOCKERS: released, and waiting for its turn to complete. -/
def awaitsTurn (t : Tracker) : Bool :=
  match t with
  | .pending p => p.blockers == 0
  | .free | .waiting _ => false

/-- R99: `gone` is removed from every BLOCKERS set, and the trackers so released complete one at a time in
priority-then-index order, each by `finish`. One that a completion before it ended is passed over. -/
def releaseBy (e : Env) (gone : PatSet) (finish : SlotIdx → Recog → Recog) (w : Recog) : Recog :=
  let released := (slotOrder e w.trackers).filter fun t => isReleasedBy gone w.trackers[t]
  let w1 := { w with trackers := Vector.ofFn fun t => unblock gone w.trackers[t] }
  released.foldl (fun v t => if awaitsTurn v.trackers[t] then finish t v else v) w1

/-- The patterns bound to the slots of a group. -/
def patternsOf (trackers : Vector Tracker 6) (group : List SlotIdx) : PatSet :=
  group.foldl (fun acc t => match trackers[t].pattern with
    | none => acc
    | some p => acc ||| patBit p) 0

/-- R97: the members of a group are cancelled in ascending slot order, without the removal from BLOCKERS sets. -/
def cancelGroup (e : Env) (group : List SlotIdx) (reason : Reason) (time : Time) (w : Recog) : Recog :=
  group.foldl (fun v t => endSlot e t reason time .ready v) w

/-! ## Completion (R94 to R102) -/

/-- R102: the state a completing pattern takes. -/
def rearmState (d : PatDef) (held : ChanSet) : PatState :=
  match d.header.rearm with
  | .once => .spent
  | .again => .ready
  | .afterRelease => if overlaps d.univ held then .locked else .ready

/-- R96: the CHANNELS set of a pattern's last step. -/
def lastSet (d : PatDef) : ChanSet :=
  match d.steps.getLast? with
  | none => 0
  | some x => x.channels

/-- R41, R96: the action of a pattern, if it has one, at action time `at'`. -/
def actionOf (d : PatDef) (time : Time) : Option Action :=
  match d.header.actionOut with
  | none => none
  | some o => some { out := o, op := d.header.actionOp, pulseLen := d.header.pulseLen, lastSet := lastSet d,
                     time := time }

/-- R95: the ACTION_SKIPPED flag. -/
def skippedFlag (e : Env) (a : Option Action) (w : Recog) : Bool :=
  match a with
  | none => false
  | some x => actionSkipped e.outCfg[x.out] w.outs[x.out] x w.held

/-- R94, step 2. -/
def actOpt (e : Env) (a : Option Action) (w : Recog) : Recog :=
  match a with
  | none => w
  | some x => w.act e x

/-- R98: the slots bound to a pattern whose UNIVERSE overlaps `univ`, in ascending order. -/
def overlapping (e : Env) (univ : ChanSet) (trackers : Vector Tracker 6) : List SlotIdx :=
  allSlots.filter fun t => match trackers[t].pattern with
    | none => false
    | some q => overlaps (e.pat q).univ univ

/-- R94, steps 1 to 3, for the tracker in slot `t` bound to `p`: record, action, slot freed and pattern rearmed. -/
def completeSlot (e : Env) (t : SlotIdx) (p : PatIdx) (te : Time) (deferred : Bool) (time : Time) (w : Recog) :
    Recog :=
  let d := e.pat p
  let a := actionOf d time
  let w1 := w.offerIf d.header.reportDone
    (.recognized p d.header.tag (shortTime w.trackers[t].startTime) (shortTime te) deferred (skippedFlag e a w))
  let w2 := actOpt e a w1
  let w3 := (w2.setTracker t .free).setPat p (rearmState d w2.held)
  { w3 with ended := w3.ended ||| patBit p }

/-- The END_TIME of a PENDING tracker. -/
def Tracker.endTime (t : Tracker) : Time :=
  match t with
  | .pending p => p.endTime
  | .free | .waiting _ => 0

/-- R94: the tracker in slot `t` completes with completion time `te` and action time `time`. The trackers that its
step 5, or its claim, releases complete inside it, deferred, at the same action time (R99 to R101). The first
argument bounds the depth of the cascade; six is enough, since each completion frees a slot (R99). -/
def complete (e : Env) : Nat → SlotIdx → Time → Bool → Time → Recog → Recog
  | 0, _, _, _, _, w => w
  | n + 1, t, te, deferred, time, w =>
      match w.trackers[t].pattern with
      | none => w
      | some p =>
          let d := e.pat p
          let w3 := completeSlot e t p te deferred time w
          let finish := fun (u : SlotIdx) (v : Recog) => complete e n u v.trackers[u].endTime true time v
          if d.header.claim then
            let group := overlapping e d.univ w3.trackers
            let gone := patternsOf w3.trackers group ||| patBit p
            let w4 := cancelGroup e group .superseded time { w3 with claimed := w3.claimed ||| d.univ }
            releaseBy e gone finish w4
          else releaseBy e (patBit p) finish w3

/-- The deepest cascade there can be: one completion for each slot (R99). -/
def cascadeDepth : Nat := 6

/-- R80: a tracker aborts or is cancelled, with the completions that its removal from BLOCKERS releases; their
release time is the abort time (R101). -/
def endTracker (e : Env) (t : SlotIdx) (reason : Reason) (time : Time) (st : PatState) (w : Recog) : Recog :=
  match w.trackers[t].pattern with
  | none => w
  | some p =>
      releaseBy e (patBit p) (fun u v => complete e cascadeDepth u v.trackers[u].endTime true time v)
        (endSlot e t reason time st w)

/-! ## Resolution (R92, R93) -/

/-- R92: the blocker set of pattern `p`. -/
def blockersOf (e : Env) (p : PatIdx) (trackers : Vector Tracker 6) : PatSet :=
  allSlots.foldl (fun acc t => match trackers[t].pattern with
    | none => acc
    | some q => if e.prio p < e.prio q && overlaps (e.pat q).univ (e.pat p).univ then acc ||| patBit q else acc) 0

/-- R93: a WAITING record becomes PENDING. -/
def Waiting.toPending (w : Waiting) (te : Time) (b : PatSet) : Pending :=
  { pattern := w.pattern, step := w.step, startTime := w.startTime, stepStart := w.stepStart, endTime := te,
    blockers := b }

/-- R92: the candidate in slot `t`, with completion time `te`, is resolved: it completes at once, or it enters
PENDING behind its blockers. -/
def resolve (e : Env) (t : SlotIdx) (te : Time) (w : Recog) : Recog :=
  match w.trackers[t] with
  | .waiting x =>
      let b := blockersOf e x.pattern w.trackers
      if (e.pat x.pattern).header.defer && b != 0 then w.setTracker t (.pending (x.toPending te b))
      else complete e cascadeDepth t te false te w
  | .free | .pending _ => w

/-- R86, R90: what becomes of a WAITING tracker outside stage 3, where a candidate is resolved at once. -/
def settle (e : Env) (t : SlotIdx) (p : Progress) (w : Recog) : Recog :=
  match p with
  | .stay x => w.setTracker t (.waiting x)
  | .candidate x te => resolve e t te (w.setTracker t (.waiting x))
  | .abort x reason time => endTracker e t reason time .ready (w.setTracker t (.waiting x))

/-! ## Due times in their order (R83 to R86) -/

/-- A due time that may be taken: its slot, its pattern, STEP_DUE's kind or none for OVERALL_DUE, its value, and its
rank among the others: the greater `rank`, the earlier the effective instant before the reference time. -/
structure Due where
  slot : SlotIdx
  pattern : PatIdx
  kind : Option DueKind
  at' : Time
  rank : Nat
  deriving DecidableEq, Repr

/-- R83: twice the time that has passed since a due time, less one where it is aborting (just after its value). -/
def dueRank (satisfying : Bool) (d t : Time) : Nat := 2 * elapsed d t - (if satisfying then 0 else 1)

/-- The due times of one slot whose effective instant is at or before `t`, STEP_DUE before OVERALL_DUE. -/
def slotDues (t : Time) (trackers : Vector Tracker 6) (i : SlotIdx) : List Due :=
  match trackers[i] with
  | .free | .pending _ => []
  | .waiting w =>
      (match w.stepDue with
        | none => []
        | some (k, d) => if dueAt k.satisfying d t then
            [{ slot := i, pattern := w.pattern, kind := some k, at' := d, rank := dueRank k.satisfying d t }] else [])
      ++ (match w.overallDue with
        | none => []
        | some d => if dueAt false d t then
            [{ slot := i, pattern := w.pattern, kind := none, at' := d, rank := dueRank false d t }] else [])

/-- R85: `a` is to be taken before `b`: the earlier effective instant first, and at the same instant
priority-then-index order. Equal keys are the two due times of one tracker, listed STEP_DUE first. -/
def dueFirst (e : Env) (a b : Due) : Bool :=
  b.rank < a.rank || (a.rank == b.rank &&
    (e.prio b.pattern < e.prio a.pattern || (e.prio a.pattern == e.prio b.pattern && a.pattern < b.pattern)))

/-- The due time to take next, among those whose effective instant is at or before `t`. -/
def nextDue (e : Env) (t : Time) (w : Recog) : Option Due :=
  (allSlots.flatMap (slotDues t w.trackers)).foldl (fun best d => match best with
    | none => some d
    | some b => if dueFirst e d b then some d else some b) none

/-- R86: a due time is taken, and handled whole. -/
def takeDue (e : Env) (d : Due) (w : Recog) : Recog :=
  match w.trackers[d.slot] with
  | .waiting x =>
      match d.kind with
      | none => endTracker e d.slot .expired d.at' .ready w
      | some k => settle e d.slot (takeStepDue (e.pat x.pattern) w.held k d.at' x) w
  | .free | .pending _ => w

/-- The most due times the WAITING trackers can still have taken: each ends its tracker or moves it to a later step. -/
def dueFuel (e : Env) (w : Recog) : Nat :=
  (allSlots.map fun t => match w.trackers[t] with
    | .waiting x => 1 + ((e.pat x.pattern).steps.length - x.step)
    | .free | .pending _ => 0).sum

/-- R84: take due times whose effective instant is at or before `t`, in order, at most `n` of them. -/
def takeDues (e : Env) (t : Time) : Nat → Recog → Recog
  | 0, w => w
  | n + 1, w =>
      match nextDue e t w with
      | none => w
      | some d => takeDues e t n (takeDue e d w)

/-! ## One event (R87 to R90) -/

/-- R87, stage 1. -/
def stage1 (e : Env) (ev : Event) (w : Recog) : Recog := takeDues e ev.time (dueFuel e w) w

/-- R103: a LOCKED pattern none of whose UNIVERSE is held becomes READY. -/
def unlock (univ held : ChanSet) (st : PatState) : PatState :=
  if st = .locked && !overlaps univ held then .ready else st

/-- R62, R87, stage 2: the held set, and the unlocks of a RELEASE. -/
def stage2 (e : Env) (ev : Event) (w : Recog) : Recog :=
  if ev.press then { w with held := w.held ||| chanBit ev.chan }
  else
    let held := w.held &&& ~~~(chanBit ev.chan)
    { w with held := held, pstate := Vector.ofFn fun p => unlock (e.pat p).univ held w.pstate[p] }

/-- R88, stage 3, one slot: the candidates found so far are listed with their completion times. -/
def offerSlot (e : Env) (ev : Event) (acc : Recog × List (SlotIdx × Time)) (t : SlotIdx) :
    Recog × List (SlotIdx × Time) :=
  match acc.1.trackers[t] with
  | .waiting x =>
      match offerEvent (e.pat x.pattern) acc.1.held ev x with
      | .stay y => (acc.1.setTracker t (.waiting y), acc.2)
      | .candidate y te => (acc.1.setTracker t (.waiting y), acc.2 ++ [(t, te)])
      | .abort y reason time => (endTracker e t reason time .ready (acc.1.setTracker t (.waiting y)), acc.2)
  | .free | .pending _ => acc

/-- R88, stage 3. -/
def stage3 (e : Env) (ev : Event) (w : Recog) : Recog × List (SlotIdx × Time) :=
  allSlots.foldl (offerSlot e ev) (w, [])

/-- The completion time of the candidate in slot `t`, if there is one. -/
def candidateTime (cands : List (SlotIdx × Time)) (t : SlotIdx) : Option Time :=
  (cands.find? fun c => c.1 == t).map Prod.snd

/-- R89, stage 4: the candidates are resolved in priority-then-index order; one that has ended is passed over. -/
def stage4 (e : Env) (cands : List (SlotIdx × Time)) (w : Recog) : Recog :=
  (slotOrder e w.trackers).foldl (fun v t => match candidateTime cands t with
    | none => v
    | some te => resolve e t te v) w

/-- R64: the lowest-numbered FREE slot. -/
def freeSlot (trackers : Vector Tracker 6) : Option SlotIdx := allSlots.find? fun t => trackers[t].isFree

/-- R105: slot `a` is a better victim than slot `b`: lower priority, then later START_TIME, then higher index. -/
def victimFirst (e : Env) (a b : Waiting) : Bool :=
  e.prio a.pattern < e.prio b.pattern || (e.prio a.pattern == e.prio b.pattern &&
    (before b.startTime a.startTime || (!before a.startTime b.startTime && b.pattern < a.pattern)))

/-- R105: the victim of a start of a pattern of priority `pr`. -/
def victim (e : Env) (pr : Fin 8) (trackers : Vector Tracker 6) : Option SlotIdx :=
  (allSlots.foldl (fun best t => match trackers[t] with
    | .free | .pending _ => best
    | .waiting x => if e.prio x.pattern < pr then
        (match best with
          | none => some (t, x)
          | some (u, y) => if victimFirst e x y then some (t, x) else some (u, y)) else best)
    (none : Option (SlotIdx × Waiting))).map Prod.fst

/-- R67: pattern `p` starts in the FREE slot `t` at time `time`. -/
def startIn (e : Env) (p : PatIdx) (time : Time) (t : SlotIdx) (w : Recog) : Recog :=
  settle e t (startProgress (e.pat p) w.held p time)
    ((w.setTracker t (.waiting (newWaiting (e.pat p) p time))).setPat p .active)

/-- R66, condition 4: `p` overlaps the universe of a pattern that claimed during this event. -/
def claimedAway (e : Env) (p : PatIdx) (w : Recog) : Bool := overlaps (e.pat p).univ w.claimed

/-- R107: a refused start. -/
def refuseStart (e : Env) (p : PatIdx) (time : Time) (w : Recog) : Recog :=
  (w.offerIf (e.pat p).header.reportAbort (.refused p (e.pat p).header.tag (shortTime time))).raise .trackerFull

/-- R64, R67, R105 to R107: an offered start takes a FREE slot, evicts a victim for one, or is refused. A claim that
the eviction sets free withdraws it (R106). -/
def takeStart (e : Env) (p : PatIdx) (time : Time) (w : Recog) : Recog :=
  match freeSlot w.trackers with
  | some t => startIn e p time t w
  | none =>
      match victim e (e.prio p) w.trackers with
      | none => refuseStart e p time w
      | some v =>
          let w1 := endTracker e v .evicted time .ready w
          if claimedAway e p w1 then w1
          else match freeSlot w1.trackers with
            | some t => startIn e p time t w1
            | none => w1

/-- R66: the conditions of an offer, for a press of `c`. -/
def offered (e : Env) (c : Chan) (p : PatIdx) (w : Recog) : Bool :=
  w.pstate[p] == .ready
    && (match (e.pat p).steps with
      | [] => false
      | x :: _ => hasChan x.channels c)
    && !hasPat w.ended p && !claimedAway e p w

/-- R66, R90, stage 5. -/
def stage5 (e : Env) (ev : Event) (w : Recog) : Recog :=
  if ev.press then
    e.patOrder.foldl (fun v p => if offered e ev.chan p v then takeStart e p ev.time v else v) w
  else w

/-- R87 to R90: one input event at the matcher. -/
def matchEvent (e : Env) (ev : Event) (w : Recog) : Recog :=
  let w0 := { w with ended := 0, claimed := 0 }
  let w2 := stage2 e ev (stage1 e ev w0)
  let r := stage3 e ev w2
  stage5 e ev (stage4 e r.2 r.1)

/-! ## Meanings -/

/-- DUE_TIME_TAKEN (R83): the matcher takes the due time that is next in order at the current time, and handles it
whole, with the pop that falls between its pushes (R134). Where none is due, nothing happens but that pop (log 3). -/
def execDueTimeTaken (s : State) (pop : Option PopBetween := none) : Host.Outcome State Fault Refusal :=
  .next (s.workWith pop fun e w => match nextDue e e.now w with
    | none => w
    | some d => takeDue e d w)

/-- FLUSH_TRACKERS' work (R108). -/
def flushWork (e : Env) (w : Recog) : Recog :=
  let group := allSlots.filter fun t => w.trackers[t].isPending
  let gone := patternsOf w.trackers group
  let w1 := releaseBy e gone (fun u v => complete e cascadeDepth u v.trackers[u].endTime true e.now v)
    (cancelGroup e group .cancelled e.now w)
  allSlots.foldl (fun v t => if v.trackers[t].isWaiting then endTracker e t .cancelled e.now .ready v else v) w1

end Sys2Proof.Machine
end

