-- ==== Sys2Proof/Machine/Conditioner.lean ====
section
/-! DEFINITION. The channel conditioner (02_channel_conditioning.md): what a result makes of a channel's live record
and what it hands on, synthetic releases, CHANNEL writes, and the meanings of SCAN_RESULT and RECALIBRATE. -/

namespace Sys2Proof.Machine

/-! ## Entries (R14) -/

/-- R14: entry to SETTLING, SUSPENDED or OFF. -/
def enterCleared (st : ChanState) (l : ChanLive) : ChanLive :=
  { l with state := st, debounce := 0, satCount := 0, settleCount := 0, signal := 0, faultReason := .none,
           settleSum := 0, track := 0 }

/-- R14: entry to FAULT. -/
def enterFault (r : FaultReason) (l : ChanLive) : ChanLive :=
  { l with state := .fault, debounce := 0, faultReason := r }

/-- Entry to IDLE from a press, an arming or a release (R21 to R24): both counts 0. -/
def enterIdle (l : ChanLive) : ChanLive := { l with state := .idle, debounce := 0, track := 0 }

/-- Whether a channel is PRESSED or RELEASING. -/
def ChanState.isDown (x : ChanState) : Bool :=
  match x with
  | .pressed | .releasing => true
  | .off | .settling | .idle | .arming | .suspended | .fault => false

/-- R3: whether a channel in this state is measured. -/
def ChanState.isMeasured (x : ChanState) : Bool :=
  match x with
  | .settling | .idle | .arming | .pressed | .releasing => true
  | .off | .suspended | .fault => false

/-! ## What one result does (R15 to R25) -/

/-- What the conditioner hands on: an input event (R27), or a fault notice (R25). -/
inductive Notice where
  | event (ev : Event)
  | faulted (reason : FaultReason)
  deriving DecidableEq, Repr

/-- R26: a synthetic RELEASE of channel `c` produced at `now`. -/
def syntheticRelease (c : Chan) (cause : Cause) (now : Time) (l : ChanLive) : Event :=
  { chan := c, press := false, time := now, cause := cause, duration := duration l.pressTime now }

/-- R18, R21: a natural PRESS of channel `c` by the result of the scan at `t`. -/
def naturalPress (c : Chan) (t : Time) : Event :=
  { chan := c, press := true, time := t, cause := .natural, duration := 0 }

/-- R22, R23: a natural RELEASE of channel `c` by the result of the scan at `t`. -/
def naturalRelease (c : Chan) (t : Time) (l : ChanLive) : Event :=
  { chan := c, press := false, time := t, cause := .natural, duration := duration l.pressTime t }

/-- R15: RAW and SIGNAL of a result. -/
def takeRaw (raw : Nat) (l : ChanLive) : ChanLive :=
  { l with raw := raw, signal := (raw : Int) - (l.baseline : Int) }

/-- R16: SAT_COUNT and the saturation extreme after a result. -/
def countSaturation (l : ChanLive) : ChanLive :=
  if l.raw = 0 ∨ l.raw = 4095 then
    let high := l.raw == 4095
    if l.satCount ≠ 0 ∧ l.satHigh = high then { l with satCount := l.satCount + 1 }
    else { l with satCount := 1, satHigh := high }
  else { l with satCount := 0 }

/-- R25: entry to FAULT, with the synthetic RELEASE that comes first when the channel is PRESSED or RELEASING. -/
def faultEntry (c : Chan) (r : FaultReason) (now : Time) (l : ChanLive) : ChanLive × List Notice :=
  (enterFault r l,
    (if l.state.isDown then [.event (syntheticRelease c .fault now l)] else []) ++ [.faulted r])

/-- R17: a result in SETTLING. -/
def settleStep (l : ChanLive) : ChanLive :=
  let sum := l.settleSum + l.raw
  if l.settleCount + 1 < 8 then { l with settleSum := sum, settleCount := l.settleCount + 1 }
  else
    let base := sum / 8
    { l with settleSum := 0, settleCount := 8, baseline := base, reference := base,
             signal := (l.raw : Int) - (base : Int), track := 0, debounce := 0, state := .idle }

/-- R19: the baseline step. -/
def baselineStep (cfg : ChanCfg) (l : ChanLive) : ChanLive :=
  if l.signal < -(cfg.noiseBand : Int) then { l with baseline := l.baseline - 1, track := 0 }
  else if (cfg.noiseBand : Int) < l.signal then { l with track := 0 }
  else if cfg.trackInterval ≤ l.track + 1 then
    { l with track := 0
             baseline := if l.baseline < l.raw then l.baseline + 1
                         else if l.raw < l.baseline then l.baseline - 1 else l.baseline }
  else { l with track := l.track + 1 }

/-- The distance of BASELINE from REFERENCE, without sign. -/
def driftOf (l : ChanLive) : Nat := (l.baseline - l.reference) + (l.reference - l.baseline)

/-- R19, R20: the baseline step in IDLE, and the drift check where it changed BASELINE. -/
def trackStep (cfg : ChanCfg) (c : Chan) (now : Time) (l : ChanLive) : ChanLive × List Notice :=
  let l' := baselineStep cfg l
  if l'.baseline ≠ l.baseline ∧ cfg.driftLimit ≠ 0 ∧ cfg.driftLimit < driftOf l' then faultEntry c .drift now l'
  else (l', [])

/-- R18, R21: a confirmed press. -/
def confirmPress (c : Chan) (t : Time) (l : ChanLive) : ChanLive × List Notice :=
  ({ l with state := .pressed, pressTime := t, debounce := 0 }, [.event (naturalPress c t)])

/-- R22, R23: a confirmed release. -/
def confirmRelease (c : Chan) (t : Time) (l : ChanLive) : ChanLive × List Notice :=
  (enterIdle l, [.event (naturalRelease c t l)])

/-- R18 to R23: the threshold step of the state, with the baseline step of IDLE. -/
def thresholdStep (cfg : ChanCfg) (c : Chan) (t now : Time) (l : ChanLive) : ChanLive × List Notice :=
  let atTouch := (cfg.touch : Int) ≤ l.signal
  let belowRelease := l.signal < (cfg.touch : Int) - (cfg.hyst : Int)
  match l.state with
  | .idle =>
      if atTouch then
        if cfg.pressDb ≤ 1 then confirmPress c t l else ({ l with state := .arming, debounce := 1 }, [])
      else trackStep cfg c now l
  | .arming =>
      if atTouch then
        if cfg.pressDb ≤ l.debounce + 1 then confirmPress c t l else ({ l with debounce := l.debounce + 1 }, [])
      else (enterIdle l, [])
  | .pressed =>
      if belowRelease then
        if cfg.releaseDb ≤ 1 then confirmRelease c t l else ({ l with state := .releasing, debounce := 1 }, [])
      else (l, [])
  | .releasing =>
      if belowRelease then
        if cfg.releaseDb ≤ l.debounce + 1 then confirmRelease c t l
        else ({ l with debounce := l.debounce + 1 }, [])
      else ({ l with state := .pressed, debounce := 0 }, [])
  | .off | .settling | .suspended | .fault => (l, [])

/-- R24: whether a press has lasted to its limit at the result of the scan at `t`. -/
def isStuck (cfg : ChanCfg) (t : Time) (l : ChanLive) : Bool :=
  l.state.isDown && cfg.maxHold != 0 && cfg.maxHold * 100 ≤ elapsed l.pressTime t

/-- R24: a stuck press: the synthetic RELEASE, BASELINE rebased to RAW, and IDLE. -/
def declareStuck (c : Chan) (now : Time) (l : ChanLive) : ChanLive × List Notice :=
  ({ enterIdle l with baseline := l.raw, signal := 0 }, [.event (syntheticRelease c .stuck now l)])

/-- R15: what a result with raw count `raw` of the scan at `t`, delivered at `now`, makes of a channel, and what is
handed on for it. -/
def chanResult (cfg : ChanCfg) (c : Chan) (raw : Nat) (t now : Time) (l : ChanLive) : ChanLive × List Notice :=
  if l.state.isMeasured then
    let l1 := countSaturation (takeRaw raw l)
    if 3 ≤ l1.satCount then faultEntry c (if l1.satHigh then .isOpen else .short) now l1
    else if l1.state = .settling then (settleStep l1, [])
    else if isStuck cfg t l1 then declareStuck c now l1
    else thresholdStep cfg c t now l1
  else (l, [])

/-! ## Handing on (R27 to R29) -/

/-- R28: the queue record of an input event. -/
def eventRecord (ev : Event) : Record :=
  .channel ev.chan (if ev.press then .press else if ev.cause = .stuck then .stuck else .release ev.cause)
    (shortTime ev.time) (if ev.press then 0 else ev.duration)

/-- R27: an input event is handed to the queue, the matcher, the output block and the attention logic, in this
order. -/
def handOn (report : Bool) (ev : Event) (e : Env) (w : Recog) : Recog :=
  let w1 := matchEvent e ev (w.offerIf report (eventRecord ev))
  let w2 := if ev.press then w1 else w1.endFollows
  if ev.cause = .stuck then w2.raise .channelAlert else w2

/-- R25, steps 3 and 4: the fault notice of channel `c`. -/
def noteFault (report : Bool) (c : Chan) (reason : FaultReason) (e : Env) (w : Recog) : Recog :=
  (w.offerIf report (.channel c (.fault reason) (shortTime e.now) 0)).raise .channelAlert

/-- One notice of channel `c`. -/
def handNotice (report : Bool) (c : Chan) (n : Notice) (e : Env) (w : Recog) : Recog :=
  match n with
  | .event ev => handOn report ev e w
  | .faulted reason => noteFault report c reason e w

/-- The notices of channel `c`, one after another, each with all its work (R27). -/
def handAll (report : Bool) (c : Chan) (ns : List Notice) (e : Env) (w : Recog) : Recog :=
  ns.foldl (fun v n => handNotice report c n e v) w

/-- A channel takes a new live record and its notices are handed on. The record is in place before they are: no
hand-off reads it, so where a rule makes part of the change after a hand-off (R24, R25), the order cannot be seen.
`pop` is the pop that falls between the pushes (R134). -/
def State.chanStep (s : State) (pop : Option PopBetween) (c : Chan) (r : ChanLive × List Notice) : State :=
  (s.setLive c r.1).workWith pop (handAll s.chanCfg[c].report c r.2)

/-! ## Channels taken out of PRESSED by a command -/

/-- R8, R31, R34: a channel enters `target` (SETTLING, SUSPENDED or OFF), with a synthetic RELEASE first where it is
PRESSED or RELEASING. -/
def leaveTo (target : ChanState) (cause : Cause) (c : Chan) (now : Time) (l : ChanLive) : ChanLive × List Notice :=
  (enterCleared target l, if l.state.isDown then [.event (syntheticRelease c cause now l)] else [])

/-- R31, R34: the state that an enabled channel enters to settle: SETTLING while the scanner runs, SUSPENDED while it
is stopped. -/
def State.settleTarget (s : State) : ChanState := if s.scanner.running then .settling else .suspended

/-- R31: an accepted CHANNEL write: the record is stored, and the channel is moved by its state and the new ENABLE. -/
def writeChannel (c : Chan) (cfg : ChanCfg) (s : State) : State :=
  let s1 := { s with chanCfg := s.chanCfg.set c cfg }
  let l := s.chanLive[c]
  if cfg.enable then
    match l.state with
    | .off | .fault => s1.setLive c (enterCleared s.settleTarget l)
    | .suspended => s1.setLive c (enterCleared .suspended l)
    | .settling | .idle | .arming | .pressed | .releasing => s1
  else if l.state = .off then s1
  else s1.chanStep none c (leaveTo .off .disabled c s.time l)

/-- R34: RECALIBRATE at one channel's turn. -/
def recalibrateOne (c : Chan) (s : State) : State :=
  let l := s.chanLive[c]
  if l.state = .off then s else s.chanStep none c (leaveTo s.settleTarget .recal c s.time l)

/-- R34: the channel set of ARG0 and the low four bits of ARG1. -/
def recalSet (arg0 arg1 : Byte) : ChanSet := BitVec.ofNat 12 (word16 arg0 arg1)

/-- R34: the channels of the set one at a time, in ascending order. -/
def recalibrateWork (s : State) : State :=
  let set := recalSet s.engine.arg0 s.engine.arg1
  (allChans.foldl (fun v c => if hasChan set c then recalibrateOne c v else v) s).postOk

/-! ## Meanings -/

/-- R4: the scan with its next delivery made; it ends with its last. -/
def Scan.delivered (sc : Scan) : Option Scan :=
  match sc.left with
  | [] | [_] => none
  | _ :: rest => some { sc with left := rest }

/-- SCAN_RESULT (R4, R15): the raw count of the channel at the scan position is delivered, with the scan's start time
as its timestamp, and with the pop that falls between its pushes (R134). Where no scan is in progress there is no
delivery, and nothing happens but that pop (log 3). -/
def execScanResult (raw : Fin 4096) (s : State) (pop : Option PopBetween := none) :
    Host.Outcome State Fault Refusal :=
  .next (match s.scanner.scan, s.scanner.lastScan with
    | some sc, some t =>
        match sc.left with
        | [] => s.workWith pop fun _ w => w
        | c :: _ =>
            { s with scanner := { s.scanner with scan := sc.delivered } }.chanStep pop c
              (chanResult s.chanCfg[c] c raw.val t s.time s.chanLive[c])
    | _, _ => s.workWith pop fun _ w => w)

/-- RECALIBRATE (R34): 2Ah written to CMD. -/
def execRecalibrate (s : State) : Host.Outcome State Fault Refusal := .next (cmdByte 0x2A recalibrateWork s)

end Sys2Proof.Machine
end

