-- ==== Sys2Proof/Machine/Scanning.lean ====
section
/-! DEFINITION. The time base and the scanner (01_time_base_and_scanning.md), with the meanings of TIME_BASE_TICK,
SCAN_START, START_SCAN and STOP_SCAN. -/

namespace Sys2Proof.Machine

/-- R3, step 3: the channels measured now, in ascending order. -/
def State.measured (s : State) : List Chan := allChans.filter fun c => s.chanLive[c].state.isMeasured

/-- R3: a scan starts with scan time `t`. A scan with an empty list ends at once. -/
def State.beginScan (s : State) (t : Time) : State :=
  { s with scanner := { s.scanner with
      lastScan := some t
      nextScan := some (addMs t s.globals.scanPeriod)
      scan := if s.measured.isEmpty then none else some { list := s.measured, left := s.measured } } }

/-- TIME_BASE_TICK (R1): the counter adds 1, from FFFFFFFFh to 0. It holds 0 during a start-up load, and does not
count while RST_N is held low or without supply. -/
def execTimeBaseTick (s : State) : Host.Outcome State Fault Refusal :=
  .next (if s.mode = .running then { s with time := s.time + 1 } else s)

/-- Whether the time base has reached NEXT_SCAN while the scanner is RUNNING (R3). -/
def State.scanDue (s : State) : Bool :=
  s.scanner.running && (match s.scanner.nextScan with
    | none => false
    | some t => reached t s.time)

/-- SCAN_START (R3): the time base has reached NEXT_SCAN while RUNNING, and a scan starts whose scan time is
NEXT_SCAN. Where none is due, nothing happens (log 3). -/
def execScanStart (s : State) : Host.Outcome State Fault Refusal :=
  .next (if s.scanDue then
      match s.scanner.nextScan with
      | none => s
      | some t => s.beginScan t
    else s)

/-- R6, step 1: a SUSPENDED channel goes to SETTLING. -/
def wake (l : ChanLive) : ChanLive := if l.state = .suspended then enterCleared .settling l else l

/-- R6: START_SCAN's work. In RUNNING it changes nothing. -/
def startScanWork (s : State) : State :=
  if s.scanner.running then s.postOk
  else
    let s1 := { s with chanLive := Vector.ofFn fun c => wake s.chanLive[c]
                       scanner := { s.scanner with running := true } }
    (s1.beginScan s.time).postOk

/-- START_SCAN (R6): 28h written to CMD. -/
def execStartScan (s : State) : Host.Outcome State Fault Refusal := .next (cmdByte 0x28 startScanWork s)

/-- R8, step 2, at one channel's turn: a channel in PRESSED or RELEASING goes to SUSPENDED with a HALT release. -/
def haltOne (c : Chan) (s : State) : State :=
  let l := s.chanLive[c]
  if l.state.isDown then s.chanStep none c (leaveTo .suspended .halt c s.time l) else s

/-- R8, step 3: a remaining measured channel goes to SUSPENDED. -/
def suspend (l : ChanLive) : ChanLive := if l.state.isMeasured then enterCleared .suspended l else l

/-- R8: STOP_SCAN's work. In STOPPED it changes nothing. -/
def stopScanWork (s : State) : State :=
  if s.scanner.running then
    let s1 := { s with scanner := { s.scanner with scan := none } }
    let s2 := allChans.foldl (fun v c => haltOne c v) s1
    { s2 with chanLive := Vector.ofFn fun c => suspend s2.chanLive[c]
              scanner := { s2.scanner with nextScan := none, running := false } }.postOk
  else s.postOk

/-- STOP_SCAN (R8): 29h written to CMD. -/
def execStopScan (s : State) : Host.Outcome State Fault Refusal := .next (cmdByte 0x29 stopScanWork s)

end Sys2Proof.Machine
end

