-- ==== Sys2Proof/Machine/Loads.lean ====
section
/-! DEFINITION. Images, the store's record, and what resets and loads do to every block
(09_configuration_store_and_start_up.md, with R10, R36, R37, R60, R61, R91, R125, R126, R136, R141 to R144, R160),
with the meanings of POWER_ON, LOSS_OF_POWER, RST_N_ASSERT, RST_N_RELEASE and START_UP_LOAD_END. -/

namespace Sys2Proof.Machine

/-! ## Banks -/

/-- The item of one bank. -/
def Banks.get {α : Type} (x : Banks α) (i : BankId) : α :=
  match i with
  | .a => x.a
  | .b => x.b

/-- Replace the item of one bank. -/
def Banks.put {α : Type} (x : Banks α) (i : BankId) (v : α) : Banks α :=
  match i with
  | .a => { x with a := v }
  | .b => { x with b := v }

/-- The other bank. -/
def BankId.other (i : BankId) : BankId :=
  match i with
  | .a => .b
  | .b => .a

/-- R162: the state that an examination judges a bank to be in. -/
def NvBank.judge (n : NvBank) : BankState :=
  if n.erased then .blank else if n.formatOk && n.checkOk then .valid else .damaged

/-- R162: the store's record of a bank after its examination; GENERATION is 0 unless VALID. -/
def NvBank.examine (n : NvBank) : BankRec :=
  { state := n.judge, generation := if n.judge = .valid then n.generation else 0 }

/-- R162, R172, R179: the store's record of a DAMAGED bank. -/
def BankRec.damaged : BankRec := { state := .damaged, generation := 0 }

/-- A bank that is neither erased nor able to pass as VALID: its format code does not read as this part's (R172, the
retire phase; an erase that is under way or was cut off). -/
def NvBank.unformatted (n : NvBank) : NvBank := { n with erased := false, formatOk := false, checkOk := false }

/-- R172, R174: the body, format code and GENERATION are in the bank, but no check value. -/
def NvBank.programmed (g : BitVec 16) (i : Image) : NvBank :=
  { erased := false, formatOk := true, generation := g, checkOk := false, body := i }

/-- R172, R174: a bank whose check value word is fully written. -/
def NvBank.sealed (g : BitVec 16) (i : Image) : NvBank :=
  { erased := false, formatOk := true, generation := g, checkOk := true, body := i }

/-- Set both the bank and the store's record of it. -/
def Store.setBank (st : Store) (i : BankId) (n : NvBank) (r : BankRec) : Store :=
  { st with nv := st.nv.put i n, record := st.record.put i r }

/-- The image that a source holds: a bank's body, or the factory image (R177, R178). -/
def Store.imageOf (st : Store) (x : Source) : Image :=
  match x with
  | .factory => factoryImage
  | .bank i => (st.nv.get i).body

/-! ## Applying an image -/

/-- R36: a channel's live record at the end of a load. -/
def liveFromRecord (atStart : Bool) (c : ChanCfg) : ChanLive :=
  ChanLive.zero (if !c.enable then .off else if atStart then .settling else .suspended)

/-- R43: the union of the channel sets of a step list. -/
def unionOf (steps : List Step) : ChanSet := steps.foldl (fun acc x => acc ||| x.channels) 0

/-- R60: a pattern table entry's definition at the end of a load. -/
def defFromImage (p : Option PatImage) : PatDef :=
  match p with
  | none => PatDef.empty
  | some q => { header := q.header, steps := q.steps, univ := unionOf q.steps }

/-- R60: a pattern's state at the end of a load. -/
def stateFromImage (p : Option PatImage) : PatState :=
  match p with
  | none => .empty
  | some q => if q.enabled then .ready else .disabled

/-- R168, step 7, and R176, step 1: what the blocks take from an image at the end of every load: GLOBALS, channels,
pattern table, POOL_FREE, build context, matcher, outputs. The scanner starts later (`startFromImage`). -/
def State.applyImage (i : Image) (s : State) : State :=
  { s with
    globals := i.globals
    chanCfg := i.chans
    chanLive := Vector.ofFn fun c => liveFromRecord i.globals.scanAtStart i.chans[c]
    patDef := Vector.ofFn fun p => defFromImage i.pats[p]
    patState := Vector.ofFn fun p => stateFromImage i.pats[p]
    poolFree := poolSize - i.stepTotal
    build := none
    held := 0
    trackers := Vector.replicate 6 .free
    outCfg := i.outs
    outState := Vector.ofFn fun o => outFromRecord i.outs[o] }

/-- R10, R11: the scanner's run state at the end of a load, with a scan at the current time where the image sets
SCAN_AT_START. -/
def State.startFromImage (i : Image) (s : State) : State :=
  let s1 := { s with scanner := { running := i.globals.scanAtStart, lastScan := none, nextScan := none,
                                  scan := none } }
  if i.globals.scanAtStart then s1.beginScan s1.time else s1

/-! ## Resets -/

/-- R174, R180: what a reset leaves of a bank that was being erased when it fell: BLANK if the erase had finished,
DAMAGED if not. -/
def cutErase (eraseDone : Bool) (n : NvBank) : NvBank := if eraseDone then NvBank.blank else n.unformatted

/-- R174, R180: the banks after work in flight is abandoned. Outside an erase the bank reads as the last phase that
ended left it, and the table of R174 asks for no more: programming is DAMAGED from its start, verify and the writing
of the check value word leave it without a check value, and a check value word fully written makes it VALID. -/
def cutStore (eraseDone : Bool) (c : Option LongCmd) (st : Store) : Store :=
  match c with
  | some (.commit .erase target _ _) => { st with nv := st.nv.put target (cutErase eraseDone (st.nv.get target)) }
  | some (.erase now _) => { st with nv := st.nv.put now (cutErase eraseDone (st.nv.get now)) }
  | _ => st

/-- R167: all work in flight is abandoned and the part goes to `m`. The banks keep what the cut left (`cutStore`).
Every volatile block is emptied: the scan, the trackers, the queue, pulses and follows, the command in flight, the
bus transaction and any waiting address are gone, every output is OFF and the time base holds 0. None of this can be
read before the load that follows has set it again (log 17). -/
def State.goDown (eraseDone : Bool) (m : Mode) (s : State) : State :=
  { s with
    mode := m
    time := 0
    scanner := { running := false, lastScan := none, nextScan := none, scan := none }
    chanLive := Vector.replicate 12 (ChanLive.zero .off)
    patDef := Vector.replicate 24 PatDef.empty
    patState := Vector.replicate 24 .empty
    poolFree := poolSize
    build := none
    held := 0
    trackers := Vector.replicate 6 .free
    outState := Vector.replicate 6 .off
    report := { records := [], lost := 0 }
    engine := Engine.reset
    port := { s.port with waiting := none, bus := .idle, snapshot := none, pointer := 0 }
    store := cutStore eraseDone s.engine.inFlight s.store }

/-- POWER_ON (R167): the supply rises above its operating threshold. Whatever was in flight is abandoned; a start-up
load with RESET_CAUSE POWER_ON begins, once RST_N is high. -/
def execPowerOn (eraseDone : Bool) (s : State) : Host.Outcome State Fault Refusal :=
  .next (s.goDown eraseDone (if s.rstLow then .held true else .loading .powerOn))

/-- LOSS_OF_POWER (R174): the supply fails. -/
def execLossOfPower (eraseDone : Bool) (s : State) : Host.Outcome State Fault Refusal :=
  .next (s.goDown eraseDone .unpowered)

/-- RST_N_ASSERT (R167, R169): RST_N is driven low. A load in progress is abandoned, whatever its cause. A pin that
is low already, or a part without supply, only takes the level. -/
def execRstNAssert (eraseDone : Bool) (s : State) : Host.Outcome State Fault Refusal :=
  .next (match s.mode with
    | .unpowered | .held _ => { s with rstLow := true }
    | .loading _ | .running => { s.goDown eraseDone (.held false) with rstLow := true })

/-- RST_N_RELEASE (R167, R169): RST_N rises; where it held the part in reset, a start-up load begins. -/
def execRstNRelease (s : State) : Host.Outcome State Fault Refusal :=
  .next (match s.mode with
    | .held powerOnWaits => { s with rstLow := false, mode := .loading (if powerOnWaits then .powerOn else .pin) }
    | .unpowered | .loading _ | .running => { s with rstLow := false })

/-! ## The start-up load (R168) -/

/-- R168, step 2: the banks are examined. -/
def Store.examineAll (st : Store) : Store :=
  { st with
    record := { a := st.nv.a.examine, b := st.nv.b.examine }
    damagedAtStart := { a := st.nv.a.judge == .damaged, b := st.nv.b.judge == .damaged } }

/-- R168, step 4: the source of a start-up load. -/
def Store.startSource (st : Store) : Source :=
  match st.current with
  | some i => .bank i
  | none => .factory

/-- R143: the port at the end of a start-up load. -/
def portAtStart (adselLow : Bool) (address : BusAddr) (p : Port) : Port :=
  { p with strap := adselLow, inUse := if adselLow then strapAddress else address, waiting := none, pointer := 0,
           bus := .idle, snapshot := none }

/-- R168, steps 2 to 9, for a load with cause `cause`. -/
def State.startUp (cause : ResetCause) (adselLow : Bool) (s : State) : State :=
  let st := s.store.examineAll
  let st' := { st with source := st.startSource }
  let image := st'.imageOf st'.source
  let s1 := { s with
    store := st'
    port := portAtStart adselLow image.globals.address s.port
    time := 0
    resetCause := cause
    attnMask := image.attnMask
    report := { records := [], lost := 0 }
    outLevel := 0
    engine := Engine.reset
    flags := if st'.damagedAtStart.a || st'.damagedAtStart.b then raiseFlag .storeFault 0 else 0
    mode := .running }
  (s1.applyImage image).startFromImage image

/-- START_UP_LOAD_END (R168): the start-up load in progress ends, with ADSEL sampled low or high. Where none is in
progress, nothing happens (log 3). -/
def execStartUpLoadEnd (adselLow : Bool) (s : State) : Host.Outcome State Fault Refusal :=
  .next (match s.mode with
    | .loading cause => s.startUp cause adselLow
    | .unpowered | .held _ | .running => s)

end Sys2Proof.Machine
end

