-- ==== Sys2Proof/Machine/Storing.lean ====
section
/-! DEFINITION. COMMIT, the restores, ERASE_STORED and REINIT with the happenings that end their phases
(09_configuration_store_and_start_up.md, sections 9.5 to 9.7; R159). -/

namespace Sys2Proof.Machine

/-! ## COMMIT (R170 to R174) -/

/-- R60, R170: the enable bit that a commit records for a pattern that is not EMPTY. -/
def enableBit (st : PatState) : Bool :=
  match st with
  | .ready | .active | .spent | .locked => true
  | .empty | .building | .disabled => false

/-- R170: what a commit records of a pattern. -/
def patToImage (d : PatDef) (st : PatState) : Option PatImage :=
  match st with
  | .empty => none
  | .building | .disabled | .ready | .active | .spent | .locked =>
      some { header := d.header, enabled := enableBit st, steps := d.steps }

/-- R170: the commit image: the live configuration as it stands. -/
def State.commitImage (s : State) : Image :=
  { globals := s.globals, attnMask := s.attnMask, chans := s.chanCfg, outs := s.outCfg
    pats := Vector.ofFn fun p => patToImage s.patDef[p] s.patState[p] }

/-- R171: the target bank of a commit and the GENERATION it writes. -/
def Store.commitTarget (st : Store) : BankId × BitVec 16 :=
  match st.current with
  | some i => (i.other, (st.record.get i).generation + 1)
  | none => (.a, 1)

/-- R170 to R172: COMMIT's work at its take: BUILD_OPEN while a build is open; otherwise the commit image is fixed,
the target chosen and retired, and the erase begins. -/
def commitWork (s : State) : State :=
  if s.build.isSome then s.postResult .buildOpen 0
  else
    let t := s.store.commitTarget
    let s1 := s.acceptLong (.commit .erase t.1 t.2 s.commitImage)
    { s1 with store := s1.store.setBank t.1 (s1.store.nv.get t.1).unformatted BankRec.damaged }

/-- COMMIT (R170): 40h written to CMD. -/
def execCommit (s : State) : Host.Outcome State Fault Refusal := .next (cmdByte 0x40 commitWork s)

/-- The command in flight replaced. -/
def State.setFlight (s : State) (c : LongCmd) : State := { s with engine := { s.engine with inFlight := some c } }

/-- COMMIT_ERASE_END (R172): the target is BLANK in the store's record, and programming begins: from then on the bank
is neither erased nor complete (R174, phase 3). -/
def execCommitEraseEnd (s : State) : Host.Outcome State Fault Refusal :=
  .next (match s.engine.inFlight with
    | some (.commit .erase t g i) =>
        { s.setFlight (.commit .program t g i) with
          store := s.store.setBank t NvBank.blank.unformatted BankRec.blank }
    | _ => s)

/-- COMMIT_PROGRAM_END (R172): body, format code and GENERATION are written; the target is DAMAGED in the store's
record, and verify begins. -/
def execCommitProgramEnd (s : State) : Host.Outcome State Fault Refusal :=
  .next (match s.engine.inFlight with
    | some (.commit .program t g i) =>
        { s.setFlight (.commit .verify t g i) with store := s.store.setBank t (NvBank.programmed g i) BankRec.damaged }
    | _ => s)

/-- R173: a commit ends because something does not read back as written: the target is DAMAGED, STORE_FAULT is set,
then STORE_FAILED is posted. -/
def State.failCommit (s : State) (t : BankId) : State :=
  ({ s with store := s.store.setBank t (s.store.nv.get t).unformatted BankRec.damaged }.raise .storeFault).postResult
    .storeFailed 0

/-- COMMIT_VERIFY_END (R173): phase 4 ends; where all reads back as written the seal begins. -/
def execCommitVerifyEnd (matched : Bool) (s : State) : Host.Outcome State Fault Refusal :=
  .next (match s.engine.inFlight with
    | some (.commit .verify t g i) =>
        if matched then s.setFlight (.commit (.seal false) t g i) else s.failCommit t
    | _ => s)

/-- CHECK_VALUE_WORD_WRITTEN (R174): the last write of the commit is in the bank, which an examination would now find
VALID; the store's record still shows DAMAGED. -/
def execCheckValueWordWritten (s : State) : Host.Outcome State Fault Refusal :=
  .next (match s.engine.inFlight with
    | some (.commit (.seal false) t g i) =>
        { s.setFlight (.commit (.seal true) t g i) with
          store := { s.store with nv := s.store.nv.put t (NvBank.sealed g i) } }
    | _ => s)

/-- COMMIT_SEAL_END (R173): phase 5 ends. Where the check value reads back as written, the target is VALID with its
new generation and the commit succeeds; otherwise it fails. -/
def execCommitSealEnd (matched : Bool) (s : State) : Host.Outcome State Fault Refusal :=
  .next (match s.engine.inFlight with
    | some (.commit (.seal _) t g i) =>
        if matched then
          { s with store := s.store.setBank t (NvBank.sealed g i) { state := .valid, generation := g } }.postOk
        else s.failCommit t
    | _ => s)

/-! ## Restores (R175 to R178) -/

/-- R61: a pattern's state at the take of a restore. -/
def patAtRestore (st : PatState) : PatState :=
  match st with
  | .active => .ready
  | .building => .empty
  | .empty | .disabled | .ready | .spent | .locked => st

/-- R175: the take of an accepted restore from source `x`: BUSY, the scanner halts, trackers are freed silently, the
held set is emptied and every channel is OFF, an open build is discarded with its steps, and pulses and follows
become HIGH. -/
def restoreTake (x : Source) (s : State) : State :=
  let s1 := s.acceptLong (.restore x)
  { s1 with
    scanner := { running := false, lastScan := none, nextScan := none, scan := none }
    trackers := Vector.replicate 6 .free
    held := 0
    chanLive := Vector.ofFn fun c => enterCleared .off s.chanLive[c]
    patDef := Vector.ofFn fun p => if s.patState[p] = .building then PatDef.empty else s.patDef[p]
    patState := Vector.ofFn fun p => patAtRestore s.patState[p]
    poolFree := s.poolFree + (allPats.map fun p =>
      if s.patState[p] = .building then s.patDef[p].steps.length else 0).sum
    build := none
    outState := Vector.ofFn fun o => outAtRestore s.outState[o] }

/-- R175: RESTORE_STORED's work at its take. -/
def restoreStoredWork (s : State) : State :=
  match s.store.current with
  | none => s.postResult .noImage 0
  | some i => restoreTake (.bank i) s

/-- RESTORE_STORED (R175): 41h written to CMD. -/
def execRestoreStored (s : State) : Host.Outcome State Fault Refusal := .next (cmdByte 0x41 restoreStoredWork s)

/-- RESTORE_FACTORY (R178): 42h written to CMD. -/
def execRestoreFactory (s : State) : Host.Outcome State Fault Refusal :=
  .next (cmdByte 0x42 (restoreTake .factory) s)

/-- R144: an ADDRESS becomes the stored one: it waits for the next STOP where it differs from the address in use,
withdraws any waiting address where it equals it, and changes nothing of the port while the strap override is
latched. -/
def offerAddress (address : BusAddr) (p : Port) : Port :=
  if p.strap then p else { p with waiting := if address = p.inUse then none else some address }

/-- R176: the end of a restore load from source `x`. -/
def restoreEnd (x : Source) (s : State) : State :=
  let image := s.store.imageOf x
  let s1 := s.applyImage image
  let s2 := { s1 with port := offerAddress image.globals.address s1.port
                      store := { s1.store with source := x } }
  { s2.startFromImage image with attnMask := image.attnMask }.postOk

/-- RESTORE_LOAD_END (R176): the restore load in progress ends. Where none is in progress, nothing happens
(log 3). -/
def execRestoreLoadEnd (s : State) : Host.Outcome State Fault Refusal :=
  .next (match s.engine.inFlight with
    | some (.restore x) => restoreEnd x s
    | _ => s)

/-! ## ERASE_STORED (R179, R180) -/

/-- R179: the bank erased first and the bank erased second. -/
def Store.eraseOrder (st : Store) : BankId × BankId :=
  match st.current with
  | some .a => (.b, .a)
  | some .b => (.a, .b)
  | none => (.a, .b)

/-- R179: the erase of bank `i` begins, with `following` still to come. -/
def State.beginErase (s : State) (i : BankId) (following : Option BankId) : State :=
  { s.setFlight (.erase i following) with store := s.store.setBank i (s.store.nv.get i).unformatted BankRec.damaged }

/-- R179: the turns of the banks in `order` begin: a BLANK bank is passed over in no time, and with no bank left the
command ends. -/
def State.eraseNext (s : State) : List BankId → State
  | [] => s.postOk
  | [i] => if (s.store.record.get i).state = .blank then s.postOk else s.beginErase i none
  | i :: j :: _ =>
      if (s.store.record.get i).state ≠ .blank then s.beginErase i (some j)
      else if (s.store.record.get j).state = .blank then s.postOk else s.beginErase j none

/-- R179: ERASE_STORED's work at its take. -/
def eraseStoredWork (s : State) : State :=
  let o := s.store.eraseOrder
  (s.acceptLong (.erase o.1 (some o.2))).eraseNext [o.1, o.2]

/-- ERASE_STORED (R179): 43h written to CMD. -/
def execEraseStored (s : State) : Host.Outcome State Fault Refusal := .next (cmdByte 0x43 eraseStoredWork s)

/-- R179: the erase of bank `i` ends with it BLANK. -/
def State.blankBank (s : State) (i : BankId) : State :=
  { s with store := s.store.setBank i NvBank.blank BankRec.blank }

/-- ERASE_FIRST_BANK_END (R179): the first bank is BLANK; the second bank's turn begins. DESIGN CHOICE (log 27): it
begins in this same step, so the moment between the erases that R180 names is no state of its own; a reset then has the
outcome of one during the first erase that finds the erase finished. -/
def execEraseFirstBankEnd (s : State) : Host.Outcome State Fault Refusal :=
  .next (match s.engine.inFlight with
    | some (.erase i (some j)) => (s.blankBank i).eraseNext [j]
    | _ => s)

/-- ERASE_SECOND_BANK_END (R179): the bank erased last is BLANK, and the command posts OK. -/
def execEraseSecondBankEnd (s : State) : Host.Outcome State Fault Refusal :=
  .next (match s.engine.inFlight with
    | some (.erase i none) => (s.blankBank i).postOk
    | _ => s)

/-! ## REINIT (R159) -/

/-- R159, R167: REINIT's work: a start-up load with RESET_CAUSE REINIT begins. No long command is in flight, so no
erase is cut off. -/
def reinitWork (s : State) : State := s.goDown false (.loading .reinit)

/-- REINIT (R159): 4Fh written to CMD. -/
def execReinit (s : State) : Host.Outcome State Fault Refusal := .next (cmdByte 0x4F reinitWork s)

end Sys2Proof.Machine
end

