-- ==== Sys2Proof/Machine/PortRows.lean ====
section
/-! DEFINITION. The register window as the host reads it, and the bytes and conditions of the bus
(08_host_port_and_command_engine.md, sections 8.1 to 8.3), with the meanings of ADDRESS_BYTE, POINTER_BYTE,
REGISTER_WRITE, SNAPSHOT_READ, READ_BYTE_TRANSMITTED, STOP_CONDITION, REPEATED_START, FLAGS_WRITE, ATTN_MASK_WRITE
and POP. -/

namespace Sys2Proof.Machine

/-! ## Reading registers -/

/-- RESET_CAUSE's code (section 10.2). -/
def ResetCause.code (x : ResetCause) : Byte :=
  match x with
  | .powerOn => 1 | .pin => 2 | .reinit => 3

/-- CMD_STATUS's code (section 10.2). -/
def CmdStatus.code (x : CmdStatus) : Byte :=
  match x with
  | .idle => 0 | .busy => 1 | .done => 2 | .error => 3

/-- RUN_STATE (section 10.2.1). -/
def State.runState (s : State) : Byte :=
  (if s.restoring then 2 else byteOfBool s.scanner.running) |||
    (match s.build with
      | none => 0
      | some p => 0x80 ||| (byteOf p.val <<< 2))

/-- OUT_STATE (R115). -/
def State.outStateBits (s : State) : Byte :=
  allOuts.foldl (fun acc o => if s.outState[o].active then acc ||| (1#8 <<< o.val) else acc) 0

/-- TRACKERS_USED (R64). -/
def State.trackersUsed (s : State) : Nat := (allSlots.filter fun t => !s.trackers[t].isFree).length

/-- R164: the busy item of STORE_STATE. Every long command works on the store. -/
def State.storeBusy (s : State) : Bool := s.engine.inFlight.isSome

/-- STORE_STATE (section 10.2.5). -/
def State.storeState (s : State) : Byte :=
  byteOfBool s.storeBusy ||| (bankCode s.store.current <<< 2) ||| (s.store.source.code <<< 4)

/-- A byte of a list, 00h beyond its end. -/
def byteAt (l : List Byte) (k : Nat) : Byte := l.getD k 0

/-- R146 and the table of section 8.3: what the register at `a` reads as, live. -/
def State.readReg (s : State) (a : RegAddr) : Byte :=
  let n := a.toNat
  if 0x30 ≤ n then byteAt s.engine.buf.toList (n - 0x30)
  else if 0x28 ≤ n then 0
  else if 0x20 ≤ n then byteAt s.report.headBytes (n - 0x20)
  else match n with
    | 0x00 => idByte
    | 0x01 => revByte
    | 0x02 => s.resetCause.code
    | 0x03 => s.runState
    | 0x04 => s.flags.setWidth 8
    | 0x05 => s.attnMask.setWidth 8
    | 0x06 => byteAt (bytesOfChans s.held) 0
    | 0x07 => byteAt (bytesOfChans s.held) 1
    | 0x08 => byteAt (bytes32 s.time) 0
    | 0x09 => byteAt (bytes32 s.time) 1
    | 0x0A => byteAt (bytes32 s.time) 2
    | 0x0B => byteAt (bytes32 s.time) 3
    | 0x0C => s.engine.cmd
    | 0x0D => s.engine.status.code
    | 0x0E => s.engine.result.code
    | 0x0F => s.engine.detail
    | 0x10 => s.engine.arg0
    | 0x11 => s.engine.arg1
    | 0x12 => s.engine.arg2
    | 0x13 => byteOf s.report.records.length
    | 0x14 => 0
    | 0x15 => byteOf s.report.lost
    | 0x16 => s.outLevel.setWidth 8
    | 0x17 => s.outStateBits
    | 0x18 => byteOf s.poolFree
    | 0x19 => byteOf s.trackersUsed
    | 0x1A => s.storeState
    | _ => 0

/-- R148: the whole value of the snapshot register that begins at `a`; none where no snapshot register begins
there. -/
def State.snapshotAt (s : State) (a : RegAddr) : Option (List Byte) :=
  match a.toNat with
  | 0x06 => some (bytesOfChans s.held)
  | 0x08 => some (bytes32 s.time)
  | 0x20 => some s.report.headBytes
  | _ => none

/-- R148: the snapshot that a read transaction holds once its next byte is due: the first byte of a transaction that
begins at a snapshot register takes one. -/
def State.snapshotNow (s : State) : Option (List Byte) :=
  if s.port.bus = .readFirst then s.snapshotAt s.port.pointer else s.port.snapshot

/-- R146, R148: the byte now due, from the snapshot or live. -/
def State.dueByte (s : State) : Byte :=
  match s.snapshotNow with
  | some (b :: _) => b
  | some [] | none => s.readReg s.port.pointer

/-- R146, R148: the byte now due is transmitted: SDA carries it, the snapshot loses it, and the pointer advances by
one with wrap. -/
def State.transmit (s : State) : State :=
  { s with port := { s.port with
      sent := some s.dueByte
      snapshot := s.snapshotNow.map List.tail
      pointer := s.port.pointer + 1
      bus := .readMore } }

/-- READ_BYTE_TRANSMITTED (R146): a byte of a read transaction from the part. Outside one the part transmits nothing,
and nothing happens (log 3). -/
def execReadByteTransmitted (s : State) : Host.Outcome State Fault Refusal :=
  .next (if s.present ∧ (s.port.bus = .readFirst ∨ s.port.bus = .readMore) then s.transmit else s)

/-- SNAPSHOT_READ (R148): the first byte of a read transaction that begins at TIME, HELD or QUEUE_HEAD. At any other
point there is no such byte, and nothing happens (log 3). -/
def execSnapshotRead (s : State) : Host.Outcome State Fault Refusal :=
  .next (if s.present ∧ s.port.bus = .readFirst ∧ (s.snapshotAt s.port.pointer).isSome then s.transmit else s)

/-! ## Conditions and addresses -/

/-- R147, R148: a START with an address byte: the transaction before it, if any, ends with its snapshot; the part
acknowledges its address in use while it is present. -/
def State.beginTransaction (addr : BusAddr) (read : Bool) (s : State) : State :=
  if s.present then
    if addr = s.port.inUse then
      { s with port := { s.port with snapshot := none, ack := true, bus := if read then .readFirst else .writePointer } }
    else { s with port := { s.port with snapshot := none, ack := false, bus := .other } }
  else s.setAck false

/-- ADDRESS_BYTE (R147): a START and an address byte. -/
def execAddressByte (addr : BusAddr) (read : Bool) (s : State) : Host.Outcome State Fault Refusal :=
  .next (s.beginTransaction addr read)

/-- REPEATED_START (R148): the transaction ends without a STOP, and a new one begins with its address byte. No
waiting address is put in use (R144). -/
def execRepeatedStart (addr : BusAddr) (read : Bool) (s : State) : Host.Outcome State Fault Refusal :=
  .next (s.beginTransaction addr read)

/-- R144: a waiting address is put in use. -/
def Port.takeWaiting (p : Port) : Port :=
  match p.waiting with
  | none => p
  | some a => { p with inUse := a, waiting := none }

/-- STOP_CONDITION (R144, R148): the transaction ends with its snapshot, and a waiting address is put in use. A port
that is absent observes no STOP. -/
def execStopCondition (s : State) : Host.Outcome State Fault Refusal :=
  .next (if s.present then { s with port := { s.port.takeWaiting with bus := .idle, snapshot := none } } else s)

/-! ## Written bytes -/

/-- POINTER_BYTE (R145): the first data byte of a write transaction: its low six bits become the register pointer. A
byte of a transaction that is not a write to the part, or while the port is absent, is not acknowledged; after the
pointer byte it is no pointer byte, and nothing happens (log 3). -/
def execPointerByte (b : Byte) (s : State) : Host.Outcome State Fault Refusal :=
  .next (if !s.present then s.setAck false
    else match s.port.bus with
      | .writePointer =>
          { s with port := { s.port with pointer := b.setWidth 6, ack := true, bus := .writeData } }
      | .writeData => s
      | .idle | .other | .readFirst | .readMore => s.setAck false)

/-- R155, R181: a byte stored at `a`: the arguments and the record buffer keep it, every other register ignores it. -/
def storeByte (a : RegAddr) (b : Byte) (s : State) : State :=
  let n := a.toNat
  if h : 0x30 ≤ n ∧ n - 0x30 < 16 then
    { s with engine := { s.engine with buf := s.engine.buf.set (n - 0x30) b h.2 } }
  else match n with
    | 0x10 => { s with engine := { s.engine with arg0 := b } }
    | 0x11 => { s with engine := { s.engine with arg1 := b } }
    | 0x12 => { s with engine := { s.engine with arg2 := b } }
    | _ => s

/-- REGISTER_WRITE (R145): a data byte for a register that has no row of its own. -/
def execRegisterWrite (b : Byte) (s : State) : Host.Outcome State Fault Refusal :=
  .next (writeByteIf (fun a => !hasOwnRow a) (storeByte s.port.pointer b) s)

/-- FLAGS_WRITE (R138): a data byte for FLAGS (04h). -/
def execFlagsWrite (b : Byte) (s : State) : Host.Outcome State Fault Refusal :=
  .next (writeByteAt 0x04#6 (fun s => { s with flags := clearFlags b s.flags }) s)

/-- ATTN_MASK_WRITE (R139): a data byte for ATTN_MASK (05h). -/
def execAttnMaskWrite (b : Byte) (s : State) : Host.Outcome State Fault Refusal :=
  .next (writeByteAt 0x05#6 (fun s => { s with attnMask := b.setWidth 7 }) s)

/-- POP (R132): a data byte for QUEUE_CTL (14h). -/
def execPop (b : Byte) (s : State) : Host.Outcome State Fault Refusal := .next (popByte b s)

end Sys2Proof.Machine
end

