-- ==== Sys2Proof/Machine/Records.lean ====
section
/-! DEFINITION. READ_RECORD, WRITE_RECORD, CLEAR_QUEUE, FLUSH_TRACKERS and BAD_COMMAND (08_host_port_and_command_
engine.md, section 8.5; R108, R135, R150). -/

namespace Sys2Proof.Machine

/-- What a command's checks answer: the record it asked for, or the result and detail of its refusal. -/
inductive Answer (α : Type) where
  | accept (x : α)
  | reject (r : Result) (detail : Byte)
  deriving DecidableEq, Repr

/-- A number as an index below `n`. -/
def indexOf (n : Nat) (b : Byte) : Option (Fin n) := if h : b.toNat < n then some ⟨b.toNat, h⟩ else none

/-- R156: an indexed table's record, or BAD_INDEX for ARG1. -/
def indexed {n : Nat} (b : Byte) (f : Fin n → Buf) : Answer Buf :=
  match indexOf n b with
  | none => .reject .badIndex 1
  | some i => .accept (f i)

/-- R156, R59: table STEP: ARG1 names a pattern, ARG2 one of its steps. -/
def stepRecord (s : State) : Answer Buf :=
  match indexOf 24 s.engine.arg1 with
  | none => .reject .badIndex 1
  | some p => match s.patDef[p].steps[s.engine.arg2.toNat]? with
    | none => .reject .badIndex 2
    | some x => .accept (showStep x)

/-- R156: the record that ARG0 to ARG2 name, as it stands. -/
def State.recordAsked (s : State) : Answer Buf :=
  match s.engine.arg0.toNat with
  | 0 => .accept (showGlobals s.globals)
  | 1 => indexed s.engine.arg1 fun c : Chan => showChannel s.chanCfg[c]
  | 2 => indexed s.engine.arg1 fun c : Chan => showLive s.chanLive[c]
  | 3 => indexed s.engine.arg1 fun o : OutIdx => showOutput s.outCfg[o] s.outState[o]
  | 4 => indexed s.engine.arg1 fun p : PatIdx => showPattern s.patDef[p] s.patState[p]
  | 5 => stepRecord s
  | 6 => indexed s.engine.arg1 fun t : SlotIdx => showTracker s.trackers[t]
  | 7 => .accept (showStore s.store)
  | _ => .reject .badIndex 0

/-- R156: READ_RECORD's work: the buffer is filled with the record asked for, or the command is refused. -/
def readRecordWork (s : State) : State :=
  match s.recordAsked with
  | .accept b => { s with engine := { s.engine with buf := b } }.postOk
  | .reject r d => s.postResult r d

/-- READ_RECORD (R156): 01h written to CMD. -/
def execReadRecord (s : State) : Host.Outcome State Fault Refusal := .next (cmdByte 0x01 readRecordWork s)

/-- R158: an accepted GLOBALS write. -/
def writeGlobals (g : Globals) (s : State) : State :=
  { s with globals := g, port := offerAddress g.address s.port }

/-- R113: an accepted OUTPUT write. -/
def writeOutput (o : OutIdx) (c : OutCfg) (s : State) : State :=
  { s with outCfg := s.outCfg.set o c, outState := s.outState.set o (outFromRecord c) }

/-- A judged record is handed to its block, or the command is refused with BAD_VALUE and the field (R157). -/
def State.writeJudged {α : Type} (s : State) (j : Judged α) (f : α → State → State) : State :=
  match j with
  | .good x => (f x s).postOk
  | .bad n => s.postResult .badValue (byteOf n)

/-- R157: WRITE_RECORD's work. -/
def writeRecordWork (s : State) : State :=
  match s.engine.arg0.toNat with
  | 0 => s.writeJudged (readGlobals s.engine.buf) writeGlobals
  | 1 => match indexOf 12 s.engine.arg1 with
    | none => s.postResult .badIndex 1
    | some c => s.writeJudged (readChannel s.engine.buf) (writeChannel c)
  | 3 => match indexOf 6 s.engine.arg1 with
    | none => s.postResult .badIndex 1
    | some o => s.writeJudged (readOutput s.engine.buf) (writeOutput o)
  | 2 | 4 | 5 | 6 | 7 => s.postResult .readOnly 0
  | _ => s.postResult .badIndex 0

/-- WRITE_RECORD (R157): 02h written to CMD. -/
def execWriteRecord (s : State) : Host.Outcome State Fault Refusal := .next (cmdByte 0x02 writeRecordWork s)

/-- R135: CLEAR_QUEUE's work. -/
def clearQueueWork (s : State) : State := { s with report := { records := [], lost := 0 } }.postOk

/-- CLEAR_QUEUE (R135): 30h written to CMD. -/
def execClearQueue (s : State) : Host.Outcome State Fault Refusal := .next (cmdByte 0x30 clearQueueWork s)

/-- FLUSH_TRACKERS (R108): 20h written to CMD. -/
def execFlushTrackers (s : State) : Host.Outcome State Fault Refusal :=
  .next (cmdByte 0x20 (fun v => (v.work flushWork).postOk) s)

/-- BAD_COMMAND (R150): a byte that is not a command code written to CMD. A byte that is one is no such happening, and
nothing happens (log 3). -/
def execBadCommand (code : Byte) (s : State) : Host.Outcome State Fault Refusal :=
  .next (if isCommandCode code then s else cmdByte code (fun v => v.postResult .badCommand 0) s)

end Sys2Proof.Machine
end

