-- ==== Sys2Proof/Machine/Patterns.lean ====
section
/-! DEFINITION. The commands that define and change patterns (03_patterns_and_the_step_pool.md, sections 3.5 and
3.6). -/

namespace Sys2Proof.Machine

/-- Set a pattern's definition and state. -/
def State.setPattern (s : State) (p : PatIdx) (d : PatDef) (st : PatState) : State :=
  { s with patDef := s.patDef.set p d, patState := s.patState.set p st }

/-- Set a pattern's state. -/
def State.setPatState (s : State) (p : PatIdx) (st : PatState) : State :=
  { s with patState := s.patState.set p st }

/-- R41: a header has an action whose operation is `op`. -/
def chooses (h : PatHeader) (op : ActionOp) : Bool := h.actionOut.isSome && h.actionOp == op

/-- The commands of section 3.6: BAD_INDEX if ARG0 is above 23, before any other check; otherwise `f` at the pattern
that ARG0 names. -/
def State.onPattern (s : State) (f : PatIdx → State → State) : State :=
  match indexOf 24 s.engine.arg0 with
  | none => s.postResult .badIndex 0
  | some p => f p s

/-! ## Defining (R48 to R51) -/

/-- R48: BEGIN_PATTERN at pattern `p`. -/
def beginAt (p : PatIdx) (s : State) : State :=
  if s.build.isSome ∧ s.build ≠ some p then s.postResult .buildOpen 0
  else if s.patState[p] ≠ .empty then s.postResult .badState 0
  else match readHeader s.engine.buf with
    | .bad n => s.postResult .badValue (byteOf n)
    | .good h => { s.setPattern p { header := h, steps := [], univ := 0 } .building with build := some p }.postOk

/-- BEGIN_PATTERN (R48): 10h written to CMD. -/
def execBeginPattern (s : State) : Host.Outcome State Fault Refusal :=
  .next (cmdByte 0x10 (fun v => v.onPattern beginAt) s)

/-- R48: APPEND_STEP while pattern `p` is BUILDING. -/
def appendAt (p : PatIdx) (s : State) : State :=
  let d := s.patDef[p]
  if 8 ≤ d.steps.length then s.postResult .tooManySteps 0
  else if s.poolFree = 0 then s.postResult .poolFull 0
  else match readStep s.engine.buf d.steps with
    | .bad n => s.postResult .badValue (byteOf n)
    | .good x =>
        { s with patDef := s.patDef.set p { d with steps := d.steps ++ [x] }, poolFree := s.poolFree - 1 }.postOk

/-- The commands of an open build: NO_BUILD where it is closed (R48, R49, R51). -/
def State.onBuild (s : State) (f : PatIdx → State → State) : State :=
  match s.build with
  | none => s.postResult .noBuild 0
  | some p => f p s

/-- APPEND_STEP (R48): 11h written to CMD. -/
def execAppendStep (s : State) : Host.Outcome State Fault Refusal :=
  .next (cmdByte 0x11 (fun v => v.onBuild appendAt) s)

/-- Whether a step leaves its channels held: a CHORD or a HOLD. -/
def holdsOn (x : Step) : Bool := x.kind == .chord || x.kind == .hold

/-- R49, check 2: every HOLD's CHANNELS is a subset of those of a CHORD or HOLD directly before it. -/
def holdsBacked : Option Step → List Step → Bool
  | _, [] => true
  | prev, x :: rest =>
      (x.kind != .hold || (match prev with
        | none => false
        | some y => holdsOn y && subset x.channels y.channels)) && holdsBacked (some x) rest

/-- R49, check 3: no CHORD directly after a CHORD or a HOLD has CHANNELS that are a subset of that step's. -/
def chordsAdd : Option Step → List Step → Bool
  | _, [] => true
  | prev, x :: rest =>
      (x.kind != .chord || (match prev with
        | none => true
        | some y => !(holdsOn y && subset x.channels y.channels))) && chordsAdd (some x) rest

/-- R49, check 4: FOLLOW is not chosen, or the last step is a CHORD or a HOLD. -/
def followAllowed (h : PatHeader) (steps : List Step) : Bool :=
  !chooses h .follow || (match steps.getLast? with
    | none => false
    | some x => holdsOn x)

/-- R49, check 5: PULSE is not chosen, or PULSE_LEN is not 0. -/
def pulseAllowed (h : PatHeader) : Bool := !chooses h .pulse || h.pulseLen != 0

/-- R49: the five checks of END_PATTERN. -/
def endChecks (d : PatDef) : List (Nat × Bool) :=
  [(1, !d.steps.isEmpty), (2, holdsBacked none d.steps), (3, chordsAdd none d.steps),
   (4, followAllowed d.header d.steps), (5, pulseAllowed d.header)]

/-- R49, R50: END_PATTERN while pattern `p` is BUILDING. -/
def endAt (p : PatIdx) (s : State) : State :=
  let d := s.patDef[p]
  match firstFail (endChecks d) with
  | some n => s.postResult .invalidPattern (byteOf n)
  | none =>
      { s.setPattern p { d with univ := unionOf d.steps } (if d.header.startEnabled then .ready else .disabled) with
        build := none }.postOk

/-- END_PATTERN (R49): 12h written to CMD. -/
def execEndPattern (s : State) : Host.Outcome State Fault Refusal :=
  .next (cmdByte 0x12 (fun v => v.onBuild endAt) s)

/-- R51, R53: a pattern becomes EMPTY and its steps return to the pool. -/
def State.emptyPattern (s : State) (p : PatIdx) : State :=
  { s.setPattern p PatDef.empty .empty with poolFree := s.poolFree + s.patDef[p].steps.length }

/-- R51: ABANDON_PATTERN while pattern `p` is BUILDING. -/
def abandonAt (p : PatIdx) (s : State) : State := { s.emptyPattern p with build := none }.postOk

/-- ABANDON_PATTERN (R51): 13h written to CMD. -/
def execAbandonPattern (s : State) : Host.Outcome State Fault Refusal :=
  .next (cmdByte 0x13 (fun v => v.onBuild abandonAt) s)

/-! ## Changing (R52 to R57) -/

/-- R52: REVISE_PATTERN at pattern `p`. -/
def reviseAt (p : PatIdx) (s : State) : State :=
  if s.patState[p] ≠ .disabled then s.postResult .badState 0
  else match readHeader s.engine.buf with
    | .bad n => s.postResult .badValue (byteOf n)
    | .good h =>
        if !followAllowed h s.patDef[p].steps then s.postResult .invalidPattern 4
        else if !pulseAllowed h then s.postResult .invalidPattern 5
        else { s with patDef := s.patDef.set p { s.patDef[p] with header := h } }.postOk

/-- REVISE_PATTERN (R52): 14h written to CMD. -/
def execRevisePattern (s : State) : Host.Outcome State Fault Refusal :=
  .next (cmdByte 0x14 (fun v => v.onPattern reviseAt) s)

/-- R53: DELETE_PATTERN at pattern `p`. -/
def deleteAt (p : PatIdx) (s : State) : State :=
  match s.patState[p] with
  | .disabled => (s.emptyPattern p).postOk
  | .empty => s.postOk
  | .building | .ready | .active | .spent | .locked => s.postResult .badState 0

/-- DELETE_PATTERN (R53): 15h written to CMD. -/
def execDeletePattern (s : State) : Host.Outcome State Fault Refusal :=
  .next (cmdByte 0x15 (fun v => v.onPattern deleteAt) s)

/-- R54: ENABLE_PATTERN at pattern `p`. -/
def enableAt (p : PatIdx) (s : State) : State :=
  match s.patState[p] with
  | .disabled => (s.setPatState p .ready).postOk
  | .ready | .active | .spent | .locked => s.postOk
  | .empty | .building => s.postResult .badState 0

/-- ENABLE_PATTERN (R54): 16h written to CMD. -/
def execEnablePattern (s : State) : Host.Outcome State Fault Refusal :=
  .next (cmdByte 0x16 (fun v => v.onPattern enableAt) s)

/-- The slot bound to pattern `p`. -/
def slotOf (trackers : Vector Tracker 6) (p : PatIdx) : Option SlotIdx :=
  allSlots.find? fun t => trackers[t].pattern == some p

/-- R56: the tracker of an ACTIVE pattern is cancelled and the pattern is left DISABLED, with every completion that
this releases (R109). -/
def disableActive (p : PatIdx) (e : Env) (w : Recog) : Recog :=
  match slotOf w.trackers p with
  | none => w.setPat p .disabled
  | some t => endTracker e t .cancelled e.now .disabled w

/-- R55, R56: DISABLE_PATTERN at pattern `p`. -/
def disableAt (p : PatIdx) (s : State) : State :=
  match s.patState[p] with
  | .active => (s.work (disableActive p)).postOk
  | .ready | .spent | .locked => (s.setPatState p .disabled).postOk
  | .disabled => s.postOk
  | .empty | .building => s.postResult .badState 0

/-- DISABLE_PATTERN (R55, R56): 17h written to CMD. -/
def execDisablePattern (s : State) : Host.Outcome State Fault Refusal :=
  .next (cmdByte 0x17 (fun v => v.onPattern disableAt) s)

/-- R57: ARM_PATTERN at pattern `p`. -/
def armAt (p : PatIdx) (s : State) : State :=
  match s.patState[p] with
  | .spent | .locked => (s.setPatState p .ready).postOk
  | .empty | .building | .disabled | .ready | .active => s.postResult .badState 0

/-- ARM_PATTERN (R57): 18h written to CMD. -/
def execArmPattern (s : State) : Host.Outcome State Fault Refusal :=
  .next (cmdByte 0x18 (fun v => v.onPattern armAt) s)

end Sys2Proof.Machine
end

