-- ==== Sys2Proof/Machine/Dispatch.lean ====
section
/-! DEFINITION. One arm per command: the meaning that its row of spec/opcode_table.json has. -/

namespace Sys2Proof.Machine

def exec (i : Instr) (s : State) : Host.Outcome State Fault Refusal :=
  match i with
  | .timeBaseTick => Sys2Proof.Machine.execTimeBaseTick s
  | .scanStart => Sys2Proof.Machine.execScanStart s
  | .scanResult raw pop => Sys2Proof.Machine.execScanResult raw s pop
  | .dueTimeTaken pop => Sys2Proof.Machine.execDueTimeTaken s pop
  | .pulseEnd out => Sys2Proof.Machine.execPulseEnd out s
  | .powerOn eraseDone => Sys2Proof.Machine.execPowerOn eraseDone s
  | .rstNAssert eraseDone => Sys2Proof.Machine.execRstNAssert eraseDone s
  | .rstNRelease => Sys2Proof.Machine.execRstNRelease s
  | .startUpLoadEnd adselLow => Sys2Proof.Machine.execStartUpLoadEnd adselLow s
  | .addressByte addr read => Sys2Proof.Machine.execAddressByte addr read s
  | .pointerByte b => Sys2Proof.Machine.execPointerByte b s
  | .registerWrite b => Sys2Proof.Machine.execRegisterWrite b s
  | .snapshotRead => Sys2Proof.Machine.execSnapshotRead s
  | .stopCondition => Sys2Proof.Machine.execStopCondition s
  | .repeatedStart addr read => Sys2Proof.Machine.execRepeatedStart addr read s
  | .flagsWrite b => Sys2Proof.Machine.execFlagsWrite b s
  | .attnMaskWrite b => Sys2Proof.Machine.execAttnMaskWrite b s
  | .pop b => Sys2Proof.Machine.execPop b s
  | .outLevelWrite b => Sys2Proof.Machine.execOutLevelWrite b s
  | .readRecord => Sys2Proof.Machine.execReadRecord s
  | .writeRecord => Sys2Proof.Machine.execWriteRecord s
  | .beginPattern => Sys2Proof.Machine.execBeginPattern s
  | .appendStep => Sys2Proof.Machine.execAppendStep s
  | .endPattern => Sys2Proof.Machine.execEndPattern s
  | .abandonPattern => Sys2Proof.Machine.execAbandonPattern s
  | .revisePattern => Sys2Proof.Machine.execRevisePattern s
  | .deletePattern => Sys2Proof.Machine.execDeletePattern s
  | .enablePattern => Sys2Proof.Machine.execEnablePattern s
  | .disablePattern => Sys2Proof.Machine.execDisablePattern s
  | .armPattern => Sys2Proof.Machine.execArmPattern s
  | .flushTrackers => Sys2Proof.Machine.execFlushTrackers s
  | .startScan => Sys2Proof.Machine.execStartScan s
  | .stopScan => Sys2Proof.Machine.execStopScan s
  | .recalibrate => Sys2Proof.Machine.execRecalibrate s
  | .clearQueue => Sys2Proof.Machine.execClearQueue s
  | .commit => Sys2Proof.Machine.execCommit s
  | .restoreStored => Sys2Proof.Machine.execRestoreStored s
  | .restoreFactory => Sys2Proof.Machine.execRestoreFactory s
  | .eraseStored => Sys2Proof.Machine.execEraseStored s
  | .reinit => Sys2Proof.Machine.execReinit s
  | .badCommand code => Sys2Proof.Machine.execBadCommand code s
  | .commitEraseEnd => Sys2Proof.Machine.execCommitEraseEnd s
  | .commitProgramEnd => Sys2Proof.Machine.execCommitProgramEnd s
  | .commitVerifyEnd matched => Sys2Proof.Machine.execCommitVerifyEnd matched s
  | .commitSealEnd matched => Sys2Proof.Machine.execCommitSealEnd matched s
  | .restoreLoadEnd => Sys2Proof.Machine.execRestoreLoadEnd s
  | .eraseFirstBankEnd => Sys2Proof.Machine.execEraseFirstBankEnd s
  | .eraseSecondBankEnd => Sys2Proof.Machine.execEraseSecondBankEnd s
  | .readByteTransmitted => Sys2Proof.Machine.execReadByteTransmitted s
  | .lossOfPower eraseDone => Sys2Proof.Machine.execLossOfPower eraseDone s
  | .checkValueWordWritten => Sys2Proof.Machine.execCheckValueWordWritten s

end Sys2Proof.Machine
end

