-- ==== Sys2Proof/Safety.lean ====
section
/-! DEFINITION. What counts as a safe state of the block, in the terms that the statements use: the laws that the
spec states of every state the part can be in, each as a condition on `State` that a step keeps and that
`State.reset` meets; and the situations in which the statements put a command. -/

namespace Sys2Proof

/-! ## Kinds of command -/

/-- The commands that are a byte written to CMD (section 10.3.1, R150). -/
def Instr.isCmdByte (i : Instr) : Bool := (cmdCode i).isSome && i.wf

/-- The happenings of the part's own blocks (R1, R3, R4, R83, R119) and of its store (R172, R174, R176, R179), in which
the host has no hand. -/
def Instr.isPartEvent (i : Instr) : Bool :=
  match i with
  | .timeBaseTick | .scanStart | .scanResult _ none | .dueTimeTaken none | .pulseEnd _ | .commitEraseEnd
  | .commitProgramEnd | .commitVerifyEnd _ | .commitSealEnd _ | .checkValueWordWritten | .restoreLoadEnd
  | .eraseFirstBankEnd | .eraseSecondBankEnd => true
  | .scanResult _ (some _) | .dueTimeTaken (some _) | .powerOn _ | .rstNAssert _ | .rstNRelease | .startUpLoadEnd _
  | .addressByte _ _ | .pointerByte _
  | .registerWrite _ | .snapshotRead | .stopCondition | .repeatedStart _ _ | .flagsWrite _ | .attnMaskWrite _
  | .pop _ | .outLevelWrite _ | .readRecord | .writeRecord | .beginPattern | .appendStep | .endPattern
  | .abandonPattern | .revisePattern | .deletePattern | .enablePattern | .disablePattern | .armPattern
  | .flushTrackers | .startScan | .stopScan | .recalibrate | .clearQueue | .commit | .restoreStored
  | .restoreFactory | .eraseStored | .reinit | .badCommand _ | .readByteTransmitted | .lossOfPower _ => false

end Sys2Proof

namespace Sys2Proof.Machine

/-! ## Laws that every step keeps -/

/-- R127: at most 32 records, LOST_COUNT in 0..255, and LOST_COUNT non-zero only while the queue holds 32 records. -/
abbrev Report.Law (q : Report) : Prop :=
  q.records.length ≤ queueSize ∧ q.lost ≤ 255 ∧ (q.lost ≠ 0 → q.records.length = queueSize)

/-- R152: CMD_STATUS reads BUSY exactly while a long command is in flight. -/
abbrev State.EngineOk (s : State) : Prop := s.engine.status = .busy ↔ s.engine.inFlight.isSome = true

/-- R62: the held set is the set of channels in PRESSED or RELEASING. -/
abbrev State.HeldOk (s : State) : Prop := ∀ c : Chan, hasChan s.held c = s.chanLive[c].state.isDown

/-- Section 1.2 and R7: NEXT_SCAN is present exactly in RUNNING; a scan in progress has a scan time and a channel
still to come and runs only in RUNNING; in RUNNING no channel is SUSPENDED, and in STOPPED none is measured. -/
abbrev State.ScannerOk (s : State) : Prop :=
  s.scanner.nextScan.isSome = s.scanner.running
    ∧ (∀ sc ∈ s.scanner.scan, s.scanner.running = true ∧ s.scanner.lastScan.isSome = true ∧ sc.left ≠ [])
    ∧ ∀ c : Chan, if s.scanner.running then s.chanLive[c].state ≠ .suspended
        else s.chanLive[c].state.isMeasured = false

/-- R13: the ranges of one channel's live record, with those of the settling sum (R17) and of SAT_COUNT while the
channel is measured (R16). -/
abbrev ChanLive.InRange (l : ChanLive) : Prop :=
  l.raw ≤ 4095 ∧ l.baseline ≤ 4095 ∧ l.reference ≤ 4095 ∧ -4095 ≤ l.signal ∧ l.signal ≤ 4095 ∧ l.debounce ≤ 15
    ∧ l.satCount ≤ 3 ∧ (l.state.isMeasured = true → l.satCount ≤ 2) ∧ l.settleCount ≤ 8
    ∧ (l.state = .settling → l.settleCount < 8) ∧ l.settleSum ≤ 4095 * l.settleCount
    ∧ (l.faultReason = .none ↔ l.state ≠ .fault)

/-- R13 for every channel. -/
abbrev State.LiveOk (s : State) : Prop := ∀ c : Chan, s.chanLive[c].InRange

/-- Section 6.1, R121: whether a state suits an output that is not OFF by its record: PULSING and FOLLOWING only in
PATTERN mode, and FOLLOWING only while a channel of FOLLOW_SET is held. -/
def OutState.suits (o : OutState) (c : OutCfg) (held : ChanSet) : Bool :=
  match o with
  | .off | .low | .high => true
  | .pulsing _ => c.mode == .pattern
  | .following set => c.mode == .pattern && overlaps set held

/-- Section 6.1, R113, R121: of a running part, an output is OFF exactly where its ENABLE is 0, a HOST-mode output is
OFF, LOW or HIGH, and a FOLLOWING output has a channel of its FOLLOW_SET held. -/
abbrev State.OutputsOk (s : State) : Prop :=
  s.mode = .running → ∀ o : OutIdx,
    (s.outState[o] = .off ↔ s.outCfg[o].enable = false) ∧ s.outState[o].suits s.outCfg[o] s.held = true

/-- R39, R47, R64: a pattern is ACTIVE exactly when a slot is bound to it, no two slots are bound to one pattern, and
a pattern is BUILDING exactly when the build context holds it. -/
abbrev State.BindingsOk (s : State) : Prop :=
  (∀ p : PatIdx, s.patState[p] = .active ↔ ∃ t : SlotIdx, s.trackers[t].pattern = some p)
    ∧ (∀ t u : SlotIdx, s.trackers[t].pattern ≠ none → s.trackers[t].pattern = s.trackers[u].pattern → t = u)
    ∧ (∀ p : PatIdx, s.patState[p] = .building ↔ s.build = some p)

/-- The steps that the pattern table holds. -/
def State.stepsHeld (s : State) : Nat := (allPats.map fun p => s.patDef[p].steps.length).sum

/-- The commit image of the command in flight, if it is a commit. -/
def Engine.commitImage (g : Engine) : Option Image :=
  match g.inFlight with
  | some (.commit _ _ _ i) => some i
  | _ => none

/-- A property of every stored image: the bodies of both banks, and the commit image in flight (R161). -/
abbrev State.AllImages (s : State) (P : Image → Prop) : Prop :=
  P s.store.nv.a.body ∧ P s.store.nv.b.body ∧ ∀ i ∈ s.engine.commitImage, P i

/-- R45, with R38 for EMPTY and R161 for the images that a load can bring: an EMPTY pattern has the empty definition,
POOL_FREE and the steps of the table make 96, and no image has more than 96 steps. -/
abbrev State.PoolOk (s : State) : Prop :=
  (∀ p : PatIdx, s.patState[p] = .empty → s.patDef[p] = PatDef.empty) ∧ s.poolFree + s.stepsHeld = poolSize
    ∧ s.AllImages fun i => i.stepTotal ≤ poolSize

/-- R49, R52: checks 2 to 5 of END_PATTERN, which a defined pattern's header and steps have passed; REVISE_PATTERN
makes checks 4 and 5 again, and 2 and 3 judge the steps alone. -/
def endChecksPass (h : PatHeader) (steps : List Step) : Bool :=
  holdsBacked none steps && chordsAdd none steps && followAllowed h steps && pulseAllowed h

/-- R38: the contents of a pattern table entry by its state, with R42, R43 and, where it is defined, R49. -/
def PatDef.shapeIn (d : PatDef) (st : PatState) : Bool :=
  match st with
  | .empty => d == PatDef.empty
  | .building => d.header.wf && d.steps.length ≤ 8 && stepsWf [] d.steps && d.univ == 0
  | .disabled | .ready | .active | .spent | .locked =>
      d.header.wf && 1 ≤ d.steps.length && d.steps.length ≤ 8 && stepsWf [] d.steps && endChecksPass d.header d.steps
        && d.univ == unionOf d.steps

/-- R161: every value of an image is in range, and every pattern it holds has passed the checks of END_PATTERN. -/
def imageChecked (i : Image) : Bool :=
  i.wf && i.pats.toList.all fun p => match p with
    | none => true
    | some q => endChecksPass q.header q.steps

/-- R38 for every pattern, R64 for every tracker's step index, and R161 for every image: all that the configuration
holds has passed the checks of the command that put it there. -/
abbrev State.ConfigOk (s : State) : Prop :=
  s.globals.wf = true ∧ (∀ c : Chan, s.chanCfg[c].wf = true)
    ∧ (∀ p : PatIdx, s.patDef[p].shapeIn s.patState[p] = true)
    ∧ (∀ t : SlotIdx, ∀ p ∈ s.trackers[t].pattern, s.trackers[t].step < s.patDef[p].steps.length)
    ∧ s.AllImages fun i => imageChecked i = true

/-- The PENDING record of a slot. -/
def Tracker.pending? (t : Tracker) : Option Pending :=
  match t with
  | .free | .waiting _ => none
  | .pending x => some x

/-- R93: a PENDING tracker's BLOCKERS set is not empty, and each member is a pattern of strictly higher priority whose
universe overlaps its own and which has a tracker bound. -/
abbrev State.PendingOk (s : State) : Prop :=
  ∀ t : SlotIdx, ∀ x ∈ s.trackers[t].pending?, x.blockers ≠ 0 ∧ ∀ q : PatIdx, hasPat x.blockers q = true →
    s.patDef[x.pattern].header.priority < s.patDef[q].header.priority
      ∧ overlaps s.patDef[q].univ s.patDef[x.pattern].univ = true
      ∧ ∃ u : SlotIdx, s.trackers[u].pattern = some q

/-- The bank that the command in flight is writing. -/
def Engine.bankWritten (g : Engine) : Option BankId :=
  match g.inFlight with
  | some (.commit _ t _ _) => some t
  | some (.erase i _) => some i
  | _ => none

/-- R171, R172, R174: what a commit in flight has left in its target, in the bank and in the store's record, and that
its GENERATION is the current generation plus one, or 1 in bank A where no bank was current. -/
def Store.commitStands (st : Store) (ph : CommitPhase) (t : BankId) (g : BitVec 16) (i : Image) : Bool :=
  (match ph with
    | .erase => (st.nv.get t).judge == .damaged && st.record.get t == BankRec.damaged
    | .program => (st.nv.get t).judge == .damaged && st.record.get t == BankRec.blank
    | .verify | .seal false => st.nv.get t == NvBank.programmed g i && st.record.get t == BankRec.damaged
    | .seal true => st.nv.get t == NvBank.sealed g i && st.record.get t == BankRec.damaged)
    && (if (st.record.get t.other).state = .valid then g == (st.record.get t.other).generation + 1
        else t == .a && g == 1)

/-- `commitStands` for the command in flight, where that is a commit. -/
def State.commitStands (s : State) : Bool :=
  match s.engine.inFlight with
  | some (.commit ph t g i) => s.store.commitStands ph t g i
  | _ => true

/-- R162: of a running part, the store's record of every bank that no command in flight is writing is what an
examination of it would find, and a commit in flight stands as its phase says. -/
abbrev State.StoreOk (s : State) : Prop :=
  s.mode = .running →
    (s.engine.bankWritten ≠ some .a → s.store.record.a = s.store.nv.a.examine)
      ∧ (s.engine.bankWritten ≠ some .b → s.store.record.b = s.store.nv.b.examine)
      ∧ s.commitStands = true

/-! ## Situations -/

/-- R145: the next byte of a write transaction to the part reaches the register at `a`. -/
abbrev State.WritesAt (s : State) (a : RegAddr) : Prop :=
  s.mode = .running ∧ s.port.bus = .writeData ∧ s.port.pointer = a

/-- R150: a byte written next to CMD is taken: it reaches CMD, and no long command is in flight. -/
abbrev State.Takes (s : State) : Prop := s.WritesAt 0x0C#6 ∧ s.engine.inFlight = none

/-- R145: the state once the port has acknowledged a data byte: the register pointer has advanced by one. -/
def State.acked (s : State) : State :=
  { s with port := { s.port with ack := true, pointer := s.port.pointer + 1 } }

/-- R150, R151: the state once a command byte `code` was acknowledged and the command's result posted; the command's
other work is in `s`. -/
def State.posted (s : State) (code : Byte) (r : Result) (detail : Byte) : State :=
  { s.acked with
    engine := { s.engine with cmd := code, status := if r = .ok then .done else .error, result := r,
                              detail := detail, inFlight := none }
    flags := s.flags ||| 0x01#6 }

/-- R150, R152: the state once a long command `code` has been accepted; the work at its take is in `s`. -/
def State.accepted (s : State) (code : Byte) (c : LongCmd) : State :=
  { s.acked with
    engine := { s.engine with cmd := code, status := .busy, result := .ok, detail := 0, inFlight := some c } }

/-- R4: a scan in progress, started at `t`, whose scan position is channel `c`. -/
abbrev State.Delivers (s : State) (t : Time) (list : List Chan) (c : Chan) (rest : List Chan) : Prop :=
  s.scanner.lastScan = some t ∧ s.scanner.scan = some { list := list, left := c :: rest }

/-- R4: the state once the result at the scan position has been delivered to a channel whose live record becomes
`l`. -/
def State.delivered (s : State) (list : List Chan) (c : Chan) (rest : List Chan) (l : ChanLive) : State :=
  { s with
    scanner := { s.scanner with scan := if rest = [] then none else some { list := list, left := rest } }
    chanLive := s.chanLive.set c l }

/-- R129: the state once a record has been offered to the queue, where `report` says whether it is offered. -/
def State.queued (s : State) (report : Bool) (r : Record) : State :=
  if report = false then s
  else if s.report.records.length < 32 then { s with report := { s.report with records := s.report.records ++ [r] } }
  else { s with report := { s.report with lost := min (s.report.lost + 1) 255 }, flags := s.flags ||| 0x10#6 }

/-- R62, R103, R121: the state once a RELEASE of channel `c` has been handled while no tracker is in use. -/
def State.released (s : State) (c : Chan) : State :=
  { s with
    held := s.held &&& ~~~(1#12 <<< c.val)
    patState := Vector.ofFn fun p =>
      if s.patState[p] = .locked ∧ s.patDef[p].univ &&& (s.held &&& ~~~(1#12 <<< c.val)) = 0 then .ready
      else s.patState[p]
    outState := Vector.ofFn fun o => match s.outState[o] with
      | .following set => if set &&& (s.held &&& ~~~(1#12 <<< c.val)) = 0 then .low else .following set
      | .off => .off | .low => .low | .high => .high | .pulsing due => .pulsing due }

/-- R26, R27, R79: the state once a synthetic RELEASE of channel `c`, produced now for `cause`, has been handed on,
whatever trackers are in use: to the queue under REPORT, to the matcher, and to the outputs, whose follows it may
end. -/
def State.releasedFor (s : State) (cause : Cause) (c : Chan) : State :=
  s.work fun e w =>
    let dur : Short := BitVec.ofNat 16 (min (s.time - s.chanLive[c].pressTime).toNat 65535)
    (matchEvent e { chan := c, press := false, time := s.time, cause := cause, duration := dur }
      (if s.chanCfg[c].report = true then w.offer (.channel c (.release cause) (s.time.setWidth 16) dur)
        else w)).endFollows

/-- R8, R34: the state once the synthetic RELEASEs of the channels that `down` picks have been handed on, in ascending
channel order, each whole before the next. -/
def State.releasedInTurn (s : State) (cause : Cause) (down : Chan → Bool) : State :=
  ((List.finRange 12).filter down).foldl (fun v c => v.releasedFor cause c) s

/-- No tracker is in use. -/
abbrev State.NoTracker (s : State) : Prop := ∀ t : SlotIdx, s.trackers[t] = .free

/-- R49: the checks of END_PATTERN, each as the condition under which it fails. -/
def EndCheckFails (h : PatHeader) (steps : List Step) (n : Nat) : Prop :=
  match n with
  | 1 => steps = []
  | 2 => ∃ (i : Nat) (x : Step), steps[i]? = some x ∧ x.kind = .hold ∧ ¬ (∃ (j : Nat) (y : Step), i = j + 1
      ∧ steps[j]? = some y ∧ (y.kind = .chord ∨ y.kind = .hold) ∧ x.channels &&& ~~~y.channels = 0)
  | 3 => ∃ (i : Nat) (x y : Step), steps[i + 1]? = some x ∧ steps[i]? = some y ∧ x.kind = .chord
      ∧ (y.kind = .chord ∨ y.kind = .hold) ∧ x.channels &&& ~~~y.channels = 0
  | 4 => h.actionOut ≠ none ∧ h.actionOp = .follow ∧ ¬ (∃ x : Step, steps.getLast? = some x
      ∧ (x.kind = .chord ∨ x.kind = .hold))
  | 5 => h.actionOut ≠ none ∧ h.actionOp = .pulse ∧ h.pulseLen = 0
  | _ => False

/-- R15, R16: the live record once RAW, SIGNAL, SAT_COUNT and the saturation extreme of a result are in, before the
step of the channel's state. -/
def ChanLive.counted (l : ChanLive) (raw : Fin 4096) : ChanLive :=
  { l with
    raw := raw.val
    signal := (raw.val : Int) - l.baseline
    satCount :=
      if raw.val = 0 ∨ raw.val = 4095 then
        (if l.satCount ≠ 0 ∧ l.satHigh = (raw.val == 4095) then l.satCount + 1 else 1)
      else 0
    satHigh := if raw.val = 0 ∨ raw.val = 4095 then raw.val == 4095 else l.satHigh }

/-- R19: BASELINE after the baseline step of a result `raw`. -/
def ChanLive.trackedBaseline (l : ChanLive) (cfg : ChanCfg) (raw : Nat) : Nat :=
  if (raw : Int) - l.baseline < -(cfg.noiseBand : Int) then l.baseline - 1
  else if (cfg.noiseBand : Int) < (raw : Int) - l.baseline ∨ l.track + 1 < cfg.trackInterval then l.baseline
  else if l.baseline < raw then l.baseline + 1
  else if raw < l.baseline then l.baseline - 1 else l.baseline

/-- R14: the live values of a channel on entry to SETTLING, SUSPENDED or OFF. -/
def ChanLive.cleared (l : ChanLive) (st : ChanState) : ChanLive :=
  { l with state := st, debounce := 0, satCount := 0, settleCount := 0, signal := 0, faultReason := .none,
           settleSum := 0, track := 0 }

/-- R3: the states in which a channel is measured. -/
def measuredStates : List ChanState := [.settling, .idle, .arming, .pressed, .releasing]

/-- R3: the channels that a scan starting now measures, in ascending order. -/
def measuredIn (live : Vector ChanLive 12) : List Chan :=
  (List.finRange 12).filter fun c => live[c].state ∈ measuredStates

/-- R3: the scan that starts with a list of channels: none where the list is empty. -/
def scanOf (list : List Chan) : Option Scan := if list = [] then none else some { list := list, left := list }

/-! ## Due times (R83, R85) -/

/-- R83: a due time of the tracker in slot `t` that may be taken now: STEP_DUE of kind `k` where `kind` is `some k`,
OVERALL_DUE where it is `none`; a satisfying one (HOLD_END, QUIET_END) from its own value on, an aborting one from just
after it. -/
def State.DueNow (s : State) (t : SlotIdx) (kind : Option DueKind) (d : Time) : Prop :=
  ∃ x : Waiting, s.trackers[t] = .waiting x
    ∧ (match kind with
      | none => x.overallDue = some d
      | some k => x.stepDue = some (k, d))
    ∧ (s.time - d).toNat < 2 ^ 31 ∧ (kind ≠ some .holdEnd → kind ≠ some .quietEnd → s.time ≠ d)

/-- R83, R85: of two due times, that of slot `t` is taken first: the earlier value; at the same value the satisfying
one; then priority-then-index order of the patterns; and in one tracker STEP_DUE before OVERALL_DUE. -/
def State.DueBefore (s : State) (t : SlotIdx) (kind : Option DueKind) (d : Time) (u : SlotIdx)
    (kind' : Option DueKind) (d' : Time) : Prop :=
  (s.time - d').toNat < (s.time - d).toNat
    ∨ d = d' ∧ (kind = some .holdEnd ∨ kind = some .quietEnd) ∧ kind' ≠ some .holdEnd ∧ kind' ≠ some .quietEnd
    ∨ d = d' ∧ ((kind = some .holdEnd ∨ kind = some .quietEnd) ↔ (kind' = some .holdEnd ∨ kind' = some .quietEnd))
      ∧ ((t = u ∧ kind ≠ none ∧ kind' = none)
        ∨ ∃ p ∈ s.trackers[t].pattern, ∃ q ∈ s.trackers[u].pattern,
            s.patDef[q].header.priority < s.patDef[p].header.priority
            ∨ s.patDef[q].header.priority = s.patDef[p].header.priority ∧ p < q)

/-- R84: no due time of a WAITING record has its effective instant before an event at `t`. -/
abbrev Waiting.NotDueBefore (x : Waiting) (t : Time) : Prop :=
  (∀ due ∈ x.stepDue, (t - due.2).toNat < 2 ^ 31 → due.1 ≠ .holdEnd ∧ due.1 ≠ .quietEnd ∧ t = due.2)
    ∧ ∀ d ∈ x.overallDue, (t - d).toNat < 2 ^ 31 → t = d

/-! ## Endings (R80, R97, R99) -/

/-- Priority-then-index order (00_scope.md, section 4.3): pattern `p` comes before `q`. -/
abbrev Env.RanksBefore (e : Env) (p q : PatIdx) : Prop :=
  e.defs[q].header.priority < e.defs[p].header.priority
    ∨ e.defs[q].header.priority = e.defs[p].header.priority ∧ p < q

/-- The slot `t` comes before `u` in priority-then-index order of the patterns bound to them. -/
abbrev Env.SlotBefore (e : Env) (trackers : Vector Tracker 6) (t u : SlotIdx) : Prop :=
  ∃ p ∈ trackers[t].pattern, ∃ q ∈ trackers[u].pattern, e.RanksBefore p q

/-- R80, R81: the ABORTED record of the tracker in slot `t`, where its pattern's REPORT_ABORT is 1. -/
def Env.abortRecord (e : Env) (trackers : Vector Tracker 6) (reason : Reason) (time : Time) (t : SlotIdx) :
    Option Record :=
  match trackers[t].pattern with
  | none => none
  | some q =>
      if e.defs[q].header.reportAbort = true then
        some (.aborted q e.defs[q].header.tag trackers[t].step reason (time.setWidth 16))
      else none

/-- R80, R97, R99: the slots once those that `ends` picks are free and `gone` is removed from the BLOCKERS set of every
PENDING tracker that remains. -/
def slotsAfter (trackers : Vector Tracker 6) (ends : SlotIdx → Bool) (gone : PatSet) : Vector Tracker 6 :=
  Vector.ofFn fun u => if ends u then .free else match trackers[u] with
    | .pending x => .pending { x with blockers := x.blockers &&& ~~~gone }
    | .waiting x => .waiting x
    | .free => .free

/-- R99: `order` holds the trackers that this ending releases, those whose BLOCKERS set the removal of `gone` empties,
in priority-then-index order of their patterns. -/
def Env.Releases (e : Env) (trackers : Vector Tracker 6) (ends : SlotIdx → Bool) (gone : PatSet)
    (order : List SlotIdx) : Prop :=
  (∀ u, u ∈ order ↔ ends u = false ∧ ∃ x ∈ trackers[u].pending?, x.blockers ≠ 0 ∧ x.blockers &&& ~~~gone = 0)
    ∧ order.Pairwise (e.SlotBefore trackers)

/-- R99 to R101: the released trackers take their turns: each completes, deferred, with its own completion time and with
`time` as its action time, whole before the next; one that a completion before it ended is passed over. -/
def takeTurns (e : Env) (time : Time) (order : List SlotIdx) (w : Recog) : Recog :=
  order.foldl (fun v u => match v.trackers[u] with
    | .pending x => if x.blockers = 0 then complete e 6 u x.endTime true time v else v
    | .free | .waiting _ => v) w

/-! ## Fields of a record in the buffer (R182)

Each as the condition under which the field of that number fails. -/

/-- Whether a byte is no value of a flag field, or of an enumerated field with the codes 0 and 1. -/
abbrev NoFlag (b : Byte) : Prop := b ≠ 0 ∧ b ≠ 1

/-- R158, section 10.4.1. -/
def GlobalsFieldFails (b : Buf) (n : Nat) : Prop :=
  match n with
  | 1 => b[0].toNat < 8
  | 2 => NoFlag b[1]
  | 3 => b[2].toNat < 0x08 ∨ 0x77 < b[2].toNat
  | _ => False

/-- R30, section 10.4.2. -/
def ChannelFieldFails (b : Buf) (n : Nat) : Prop :=
  match n with
  | 1 => NoFlag b[0]
  | 2 => NoFlag b[1]
  | 3 => b[2].toNat + 256 * b[3].toNat < 16 ∨ 2000 < b[2].toNat + 256 * b[3].toNat
  | 4 => (b[2].toNat + 256 * b[3].toNat) / 2 < b[4].toNat + 256 * b[5].toNat
  | 5 => b[6] = 0 ∨ 15 < b[6].toNat
  | 6 => b[7] = 0 ∨ 15 < b[7].toNat
  | 8 => b[9] = 0
  | 10 => 1023 < b[11].toNat + 256 * b[12].toNat
  | _ => False

/-- R112, section 10.4.4. -/
def OutputFieldFails (b : Buf) (n : Nat) : Prop :=
  match n with
  | 1 => NoFlag b[0]
  | 2 => NoFlag b[1]
  | 3 => NoFlag b[2]
  | 4 => NoFlag b[3]
  | 5 => NoFlag b[4]
  | 6 => NoFlag b[5]
  | _ => False

/-- R40, section 10.4.5. -/
def HeaderFieldFails (b : Buf) (n : Nat) : Prop :=
  match n with
  | 1 => 7 < b[0].toNat
  | 3 => NoFlag b[2]
  | 4 => NoFlag b[3]
  | 5 => NoFlag b[4]
  | 6 => NoFlag b[5]
  | 7 => NoFlag b[6]
  | 8 => 2 < b[7].toNat
  | 9 => NoFlag b[8]
  | 11 => 5 < b[10].toNat ∧ b[10] ≠ 0xFF
  | 12 => 4 < b[11].toNat
  | _ => False

/-- R42, section 10.4.6: for a step appended to the list `steps`. The codes are 1 CHORD, 2 TAP, 3 HOLD, 4 LIFT and
5 QUIET; fields 2 to 5 are judged by the row of a KIND that meets its own condition. -/
def StepFieldFails (b : Buf) (steps : List Step) (n : Nat) : Prop :=
  match n with
  | 1 => ¬ (b[0] ∈ [1#8, 2] ∨ b[0] ∈ [3#8, 4] ∧ steps ≠ []
      ∨ b[0] = 5 ∧ ∃ y ∈ steps.getLast?, y.kind ≠ .quiet)
  | 2 => 15 < b[2].toNat ∨ b[0] ∈ [1#8, 3, 4] ∧ b[1] = 0 ∧ b[2] = 0
      ∨ b[0] = 2 ∧ ¬ ∃ c : Chan, b[1].toNat + 256 * b[2].toNat = 2 ^ c.val
  | 3 => (b[0] ∈ [1#8, 2] ∧ steps = [] ∨ b[0] ∈ [3#8, 5]) ∧ b[3] ≠ 0
  | 4 => (b[0] ∈ [1#8, 2] ∧ steps = [] ∨ b[0] ∈ [3#8, 5]) ∧ b[4] ≠ 0
      ∨ (b[0] ∈ [1#8, 2] ∧ steps ≠ [] ∨ b[0] = 4) ∧ (b[4] = 0 ∨ b[4].toNat ≤ b[3].toNat)
  | 5 => b[0] ∈ [1#8, 2, 3, 5] ∧ b[5] = 0 ∨ b[0] = 4 ∧ b[5] ≠ 0
  | _ => False

/-- R182: the lowest-numbered field that fails. -/
def LowestFails (fails : Nat → Prop) (n : Nat) : Prop := fails n ∧ ∀ m, m < n → ¬ fails m

/-! ## Layouts (chapter 10) -/

/-- Section 10.1: a number in `k` bytes, least significant byte first. -/
def leBytes (k n : Nat) : List Byte := (List.range k).map fun i => BitVec.ofNat 8 (n / 256 ^ i)

/-- Section 10.1: a flag field. -/
def flagByte (b : Bool) : List Byte := if b then [0x01] else [0x00]

/-- R183: a record of the buffer: its bytes from offset 0, and 00h beyond them. -/
def recordOf (l : List Byte) : List Byte := l ++ List.replicate (16 - l.length) 0

/-- Section 10.1: a time as a short time; 0 where it is absent (R183). -/
def shortOf (t : Option Time) : List Byte :=
  match t with
  | none => [0x00, 0x00]
  | some x => leBytes 2 x.toNat

/-- Section 10.4.7: the code of a STEP_DUE kind. -/
def dueKindNumber (k : Option (DueKind × Time)) : Nat :=
  match k with
  | none => 0
  | some (.late, _) => 1
  | some (.split, _) => 2
  | some (.long, _) => 3
  | some (.holdEnd, _) => 4
  | some (.quietEnd, _) => 5

/-! ## Runs -/

/-- The commands of a list, run one after another. -/
def execAll : List Instr → State → Host.Outcome State Fault Refusal
  | [], s => .next s
  | i :: rest, s => match exec i s with
    | .next t => execAll rest t
    | .fault r => .fault r
    | .refused r => .refused r

end Sys2Proof.Machine
end

