-- ==== Sys2Proof/Certificates/Slice0/Obligations.lean ====
section
/-! DEFINITION. The statements for the provers, each a Prop over the model. OBLIGATIONS.json lists them with the rules
of spec/ that each rests on. Where a statement gives the state that a command answers, it gives the whole of it, so
that everything it does not name is unchanged. -/

open Sys2Proof Sys2Proof.Machine

/-! ## The machine as a whole -/

/-- A step takes the command at the front of the queue and runs it with the queue's rest; on an empty queue the block
idles (the model's choice, log 2). -/
def Obligations.StepRunsTheFrontCommand : Prop :=
  (∀ (c : Instr) (rest : List Instr) (s : State),
    step { s with pending := c :: rest } = exec c { s with pending := rest })
  ∧ ∀ s : State, step { s with pending := [] } = .next { s with pending := [] }

/-- Every command completes in every state (one whose happening cannot take place there changes nothing, the model's
choice, log 3), leaves the queue of commands as it is, and does the same whatever it holds (the queue is the model's
own, log 2). -/
def Obligations.CommandsCompleteAndIgnoreTheQueue : Prop :=
  ∀ (c : Instr) (s : State), ∃ t, exec c s = .next t ∧ t.pending = s.pending
    ∧ ∀ q, exec c { s with pending := q } = .next { t with pending := q }

/-- The state after reset (the model's choice of a new part after power-on, log 1) meets every law. -/
def Obligations.ResetMeetsEveryLaw : Prop :=
  State.reset.report.Law ∧ State.reset.EngineOk ∧ State.reset.HeldOk ∧ State.reset.ScannerOk ∧ State.reset.LiveOk
    ∧ State.reset.OutputsOk ∧ State.reset.BindingsOk ∧ State.reset.PoolOk ∧ State.reset.ConfigOk
    ∧ State.reset.PendingOk ∧ State.reset.StoreOk

/-- R127: every step keeps the law of the report queue. -/
def Obligations.EveryStepKeepsTheQueueLaw : Prop :=
  ∀ s t : State, s.report.Law → step s = .next t → t.report.Law

/-- R152: every step keeps CMD_STATUS reading BUSY exactly while a long command is in flight. -/
def Obligations.EveryStepKeepsTheEngineLaw : Prop :=
  ∀ s t : State, s.EngineOk → step s = .next t → t.EngineOk

/-- R62: every step keeps the held set equal to the set of channels in PRESSED or RELEASING. -/
def Obligations.EveryStepKeepsTheHeldSet : Prop :=
  ∀ s t : State, s.HeldOk → step s = .next t → t.HeldOk

/-- R7, section 1.2: every step keeps NEXT_SCAN present exactly in RUNNING, no channel SUSPENDED in RUNNING, and none
measured in STOPPED. -/
def Obligations.EveryStepKeepsTheScannerLaw : Prop :=
  ∀ s t : State, s.ScannerOk → step s = .next t → t.ScannerOk

/-- R13, R16, R17: while the CHANNEL records are in range, every step keeps every live record in range. -/
def Obligations.EveryStepKeepsLiveRecordsInRange : Prop :=
  ∀ s t : State, (∀ c : Chan, s.chanCfg[c].wf = true) → s.LiveOk → step s = .next t → t.LiveOk

/-- Section 6.1, R113, R121: every step keeps the law of the outputs of a running part. -/
def Obligations.EveryStepKeepsTheOutputLaw : Prop :=
  ∀ s t : State, s.OutputsOk → step s = .next t → t.OutputsOk

/-- R39, R47, R64: every step keeps ACTIVE patterns and slots bound one to one, and BUILDING tied to the build context.
-/
def Obligations.EveryStepKeepsTheBindings : Prop :=
  ∀ s t : State, s.BindingsOk → step s = .next t → t.BindingsOk

/-- R45: every step keeps POOL_FREE and the steps of the table at 96 together. -/
def Obligations.EveryStepKeepsThePoolLaw : Prop :=
  ∀ s t : State, s.BindingsOk → s.PoolOk → step s = .next t → t.PoolOk

/-- R38, R42, R43, R49, R52, R64, R161: every step keeps every record within the ranges that its command checks, every
defined pattern and every pattern of an image within the field ranges and positions of its steps and within the five
checks of END_PATTERN, and every tracker on a step of its pattern. -/
def Obligations.EveryStepKeepsTheConfigurationValid : Prop :=
  ∀ s t : State, s.BindingsOk → s.PoolOk → s.ConfigOk → step s = .next t → t.ConfigOk

/-- R93: every step keeps every PENDING tracker behind blockers of strictly higher priority that overlap it and are
bound. -/
def Obligations.EveryStepKeepsPendingTrackersBlocked : Prop :=
  ∀ s t : State, s.BindingsOk → s.PendingOk → step s = .next t → t.PendingOk

/-- R162, R171, R172, R174: every step keeps the store's record of each bank equal to what an examination would find,
but for the bank that a command in flight is writing; and of a commit in flight it keeps the target, in the bank and in
the record, as the phase has left it. (That an examination finds the target DAMAGED from the beginning of programming
on, while the record still shows BLANK, and that the bank of a commit that failed is itself DAMAGED, as its record is,
is the model's deduction, log 15.) -/
def Obligations.EveryStepKeepsTheStoreRecord : Prop :=
  ∀ s t : State, s.StoreOk → step s = .next t → t.StoreOk

/-! ## Time base and scanner -/

/-- R1, R3: a tick adds one millisecond to a running part's time base; a scan that is due takes NEXT_SCAN as its scan
time, places the next one SCAN_PERIOD later and lists the measured channels, in place of a scan whose results are still
undelivered (the model's choice, log 12). In STOPPED, and in RUNNING while NEXT_SCAN is not reached, a SCAN_START is no
happening, and changes nothing (the model's choice, log 3; the distance of exactly 2^31 counts as not reached, log 20).
-/
def Obligations.TickAndScanStart : Prop :=
  (∀ s : State, exec .timeBaseTick s = .next (if s.mode = .running then { s with time := s.time + 1 } else s))
  ∧ (∀ (s : State) (n : Time), s.scanner.running = true → s.scanner.nextScan = some n →
      (s.time - n).toNat < 2 ^ 31 →
      exec .scanStart s = .next { s with scanner :=
        { running := true, lastScan := some n, nextScan := some (n + BitVec.ofNat 32 s.globals.scanPeriod),
          scan := scanOf (measuredIn s.chanLive) } })
  ∧ (∀ s : State, (s.scanner.running = false ∨ s.scanner.nextScan = none) → exec .scanStart s = .next s)
  ∧ ∀ (s : State) (n : Time), s.scanner.nextScan = some n → 2 ^ 31 ≤ (s.time - n).toNat →
    exec .scanStart s = .next s

/-- R6, R7: START_SCAN in STOPPED sends every SUSPENDED channel to SETTLING and starts a scan at the current time; in
RUNNING it changes nothing but its result. -/
def Obligations.StartScanStartsTheScanner : Prop :=
  ∀ s : State, s.Takes →
    (s.scanner.running = true → exec .startScan s = .next (s.posted 0x28#8 .ok 0))
    ∧ (s.scanner.running = false →
        exec .startScan s = .next
          ({ s with
              chanLive := Vector.ofFn fun c : Chan => if s.chanLive[c].state = ChanState.suspended then
                s.chanLive[c].cleared ChanState.settling else s.chanLive[c]
              scanner := { running := true, lastScan := some s.time,
                           nextScan := some (s.time + BitVec.ofNat 32 s.globals.scanPeriod),
                           scan := scanOf (measuredIn (Vector.ofFn fun c : Chan =>
                             if s.chanLive[c].state = ChanState.suspended then s.chanLive[c].cleared ChanState.settling
                             else s.chanLive[c])) } }.posted 0x28#8 .ok 0))

/-- R8: STOP_SCAN in RUNNING leaves the scanner STOPPED with LAST_SCAN kept, every measured channel SUSPENDED with its
counts cleared, every other channel as it was, no channel of a measured one held, and OK posted; where no channel is
PRESSED or RELEASING that is all it does, and where one is and no tracker is in use, the HALT release is as said. R9,
R27, R79: whatever trackers are in use, the HALT release of each channel that is down is handed on whole, in ascending
channel order, each before the next. With the held set right at the take it is empty afterwards. In STOPPED it changes
nothing but its result. -/
def Obligations.StopScanStopsTheScanner : Prop :=
  ∀ s : State, s.Takes →
    (s.scanner.running = false → exec .stopScan s = .next (s.posted 0x29#8 .ok 0))
    ∧ (s.scanner.running = true → ∃ t, exec .stopScan s = .next t
        ∧ t.scanner = { s.scanner with running := false, nextScan := none, scan := none }
        ∧ (∀ c : Chan, t.chanLive[c] = if c ∈ measuredIn s.chanLive then s.chanLive[c].cleared ChanState.suspended
            else s.chanLive[c])
        ∧ (∀ c : Chan, s.chanLive[c].state.isDown = true → hasChan t.held c = false)
        ∧ t.engine = (s.posted 0x29#8 .ok 0).engine ∧ t.port = s.acked.port
        ∧ (s.HeldOk → t.held = 0)
        ∧ ((∀ c : Chan, s.chanLive[c].state.isDown = false) →
            t = { s with chanLive := t.chanLive, scanner := t.scanner }.posted 0x29#8 .ok 0))
    ∧ (s.scanner.running = true → exec .stopScan s = .next
        (({ s with
              scanner := { s.scanner with running := false, nextScan := none, scan := none }
              chanLive := Vector.ofFn fun d : Chan => if s.chanLive[d].state ∈ measuredStates then
                s.chanLive[d].cleared ChanState.suspended else s.chanLive[d] }.releasedInTurn .halt
            fun c => s.chanLive[c].state.isDown).posted 0x29#8 .ok 0))
    ∧ (s.scanner.running = true → ∀ c : Chan, s.chanLive[c].state.isDown = true →
        (∀ d : Chan, d ≠ c → s.chanLive[d].state.isDown = false) → s.NoTracker →
        exec .stopScan s = .next
          ((({ s with
                scanner := { s.scanner with running := false, nextScan := none, scan := none }
                chanLive := Vector.ofFn fun d : Chan => if s.chanLive[d].state ∈ measuredStates then
                  s.chanLive[d].cleared ChanState.suspended else s.chanLive[d] }.queued s.chanCfg[c].report
              (.channel c (.release .halt) (s.time.setWidth 16)
                (BitVec.ofNat 16 (min (s.time - s.chanLive[c].pressTime).toNat 65535)))).released c).posted
            0x29#8 .ok 0))

/-! ## Channel conditioner -/

/-- R15, R16, R17, R19, R20, R14: a result for a channel that is not measured is discarded. Any other result sets RAW,
SIGNAL and SAT_COUNT, and where SAT_COUNT stays below 3, at an extreme or away from it, its state's step follows: in
SETTLING the result is collected, and the eighth fixes BASELINE and REFERENCE (that SAT_COUNT is kept on this move to
IDLE is the model's deduction, log 23); in IDLE below TOUCH it makes the baseline step of its band, where that raises no
drift fault: BASELINE unchanged, DRIFT_LIMIT 0, or the new BASELINE within DRIFT_LIMIT of REFERENCE. -/
def Obligations.ResultsThatProduceNothing : Prop :=
  ∀ (s : State) (t : Time) (list : List Chan) (c : Chan) (rest : List Chan) (raw : Fin 4096),
    s.Delivers t list c rest → ∀ (l l' : ChanLive) (cfg : ChanCfg), l = s.chanLive[c] → cfg = s.chanCfg[c] →
    l' = l.counted raw →
    ((l.state = .off ∨ l.state = .suspended ∨ l.state = .fault) →
      exec (.scanResult raw) s = .next (s.delivered list c rest l))
    ∧ (l'.satCount < 3 →
      (l.state = .settling → l.settleCount < 7 →
        exec (.scanResult raw) s = .next (s.delivered list c rest
          { l' with settleSum := l.settleSum + raw.val, settleCount := l.settleCount + 1 }))
      ∧ (l.state = .settling → l.settleCount = 7 →
        exec (.scanResult raw) s = .next (s.delivered list c rest
          { l' with state := .idle, baseline := (l.settleSum + raw.val) / 8, reference := (l.settleSum + raw.val) / 8,
                    signal := (raw.val : Int) - ((l.settleSum + raw.val) / 8 : Nat), debounce := 0, settleSum := 0,
                    settleCount := 8, track := 0 }))
      ∧ (∀ b : Nat, b = l.trackedBaseline cfg raw.val → l.state = .idle → (raw.val : Int) - l.baseline < cfg.touch →
        (cfg.driftLimit = 0 ∨ b = l.baseline ∨ ((b : Int) - l.reference).natAbs ≤ cfg.driftLimit) →
        exec (.scanResult raw) s = .next (s.delivered list c rest
          { l' with
            baseline := b
            track :=
              if -(cfg.noiseBand : Int) ≤ (raw.val : Int) - l.baseline
                ∧ (raw.val : Int) - l.baseline ≤ cfg.noiseBand ∧ l.track + 1 < cfg.trackInterval then l.track + 1
              else 0 })))

/-- R16, R18, R21, R26, R27, R28, R62: at or above TOUCH a channel in IDLE or ARMING counts the result, also one at an
extreme that leaves SAT_COUNT below 3; the count that reaches PRESS_DB confirms a natural PRESS with the result's time,
which joins the held set and, under REPORT, the queue. Below TOUCH an arming channel returns to IDLE. R88, R89: with
trackers in use the matcher handles the PRESS after its record; where one tracker is in use, no due time comes before
the event and no pattern is READY, that tracker becomes what the event makes of it: it stays WAITING, it aborts with its
ABORTED record, or it is a candidate and completes. -/
def Obligations.PressesAreConfirmed : Prop :=
  ∀ (s : State) (t : Time) (list : List Chan) (c : Chan) (rest : List Chan) (raw : Fin 4096),
    s.Delivers t list c rest → ∀ (l l' : ChanLive) (cfg : ChanCfg), l = s.chanLive[c] → cfg = s.chanCfg[c] →
    l' = l.counted raw → l'.satCount < 3 →
    ∀ n : Nat, ((l.state = .idle ∧ n = 1) ∨ (l.state = .arming ∧ n = l.debounce + 1)) →
    (cfg.touch ≤ (raw.val : Int) - l.baseline → n < cfg.pressDb →
      exec (.scanResult raw) s = .next (s.delivered list c rest { l' with state := .arming, debounce := n }))
    ∧ ((raw.val : Int) - l.baseline < cfg.touch → l.state = .arming →
      exec (.scanResult raw) s = .next (s.delivered list c rest { l' with state := .idle, debounce := 0, track := 0 }))
    ∧ (cfg.touch ≤ (raw.val : Int) - l.baseline → cfg.pressDb ≤ n →
      ∀ (u : State) (ev : Event) (record : Record) (held : ChanSet),
      u = s.delivered list c rest { l' with state := .pressed, pressTime := t, debounce := 0 } →
      ev = { chan := c, press := true, time := t, cause := .natural, duration := 0 } →
      record = .channel c .press (t.setWidth 16) 0 → held = s.held ||| 1#12 <<< c.val →
      exec (.scanResult raw) s = .next (u.work fun e w =>
        matchEvent e ev (if cfg.report = true then w.offer record else w))
      ∧ ((∀ p : PatIdx, s.patState[p] ≠ .ready) →
        (s.NoTracker → exec (.scanResult raw) s = .next { u.queued cfg.report record with held := held })
        ∧ ∀ (i : SlotIdx) (x : Waiting) (r : Progress), s.trackers[i] = .waiting x →
          (∀ j : SlotIdx, j ≠ i → s.trackers[j] = .free) → x.NotDueBefore t →
          r = offerEvent s.patDef[x.pattern] held ev x →
          (∀ y, r = .stay y → exec (.scanResult raw) s = .next
            { u.queued cfg.report record with held := held, trackers := s.trackers.set i (.waiting y) })
          ∧ (∀ y reason time, r = .abort y reason time → exec (.scanResult raw) s = .next
            ({ u.queued cfg.report record with
                held := held, trackers := s.trackers.set i .free, patState := s.patState.set x.pattern .ready }.queued
              s.patDef[x.pattern].header.reportAbort
              (.aborted x.pattern s.patDef[x.pattern].header.tag y.step reason (time.setWidth 16))))
          ∧ ∀ y te, r = .candidate y te → exec (.scanResult raw) s = .next (u.work fun e w => complete e 6 i te false te
            { (if cfg.report = true then w.offer record else w) with
              held := held, trackers := w.trackers.set i (.waiting y) })))

/-- R16, R22, R23, R27, R28, R62, R103, R121: below TOUCH − HYST a channel in PRESSED or RELEASING counts the result,
also one at an extreme that leaves SAT_COUNT below 3; the count that reaches RELEASE_DB confirms a natural RELEASE whose
duration runs from the press; it leaves the held set, unlocks patterns and ends follows. At or above it, the press goes
on. (With no stuck limit reached.) R88, R89: with trackers in use the matcher handles the RELEASE after its record and
before the follows end; where one tracker is in use and no due time comes before the event, that tracker becomes what
the event makes of it: it stays WAITING, it aborts with its ABORTED record, or it is a candidate and completes. -/
def Obligations.ReleasesAreConfirmed : Prop :=
  ∀ (s : State) (t : Time) (list : List Chan) (c : Chan) (rest : List Chan) (raw : Fin 4096),
    s.Delivers t list c rest → ∀ (l l' : ChanLive) (cfg : ChanCfg), l = s.chanLive[c] → cfg = s.chanCfg[c] →
    l' = l.counted raw → l'.satCount < 3 →
    (cfg.maxHold = 0 ∨ (t - l.pressTime).toNat < cfg.maxHold * 100) →
    ∀ n : Nat, ((l.state = .pressed ∧ n = 1) ∨ (l.state = .releasing ∧ n = l.debounce + 1)) →
    ((raw.val : Int) - l.baseline < (cfg.touch : Int) - cfg.hyst → n < cfg.releaseDb →
      exec (.scanResult raw) s = .next (s.delivered list c rest { l' with state := .releasing, debounce := n }))
    ∧ ((cfg.touch : Int) - cfg.hyst ≤ (raw.val : Int) - l.baseline → l.state = .releasing →
      exec (.scanResult raw) s = .next (s.delivered list c rest { l' with state := .pressed, debounce := 0 }))
    ∧ ((cfg.touch : Int) - cfg.hyst ≤ (raw.val : Int) - l.baseline → l.state = .pressed →
      exec (.scanResult raw) s = .next (s.delivered list c rest l'))
    ∧ ((raw.val : Int) - l.baseline < (cfg.touch : Int) - cfg.hyst → cfg.releaseDb ≤ n →
      ∀ (u v : State) (ev : Event) (dur : Short) (record : Record) (held : ChanSet),
      u = s.delivered list c rest { l' with state := .idle, debounce := 0, track := 0 } →
      dur = BitVec.ofNat 16 (min (t - l.pressTime).toNat 65535) →
      ev = { chan := c, press := false, time := t, cause := .natural, duration := dur } →
      record = .channel c (.release .natural) (t.setWidth 16) dur → held = s.held &&& ~~~(1#12 <<< c.val) →
      v = (u.queued cfg.report record).released c →
      exec (.scanResult raw) s = .next (u.work fun e w =>
        (matchEvent e ev (if cfg.report = true then w.offer record else w)).endFollows)
      ∧ (s.NoTracker → exec (.scanResult raw) s = .next v)
      ∧ ∀ (i : SlotIdx) (x : Waiting) (r : Progress), s.trackers[i] = .waiting x →
        (∀ j : SlotIdx, j ≠ i → s.trackers[j] = .free) → x.NotDueBefore t →
        r = offerEvent s.patDef[x.pattern] held ev x →
        (∀ y, r = .stay y → exec (.scanResult raw) s = .next { v with trackers := s.trackers.set i (.waiting y) })
        ∧ (∀ y reason time, r = .abort y reason time → exec (.scanResult raw) s = .next
          ({ v with trackers := s.trackers.set i .free, patState := v.patState.set x.pattern .ready }.queued
            s.patDef[x.pattern].header.reportAbort
            (.aborted x.pattern s.patDef[x.pattern].header.tag y.step reason (time.setWidth 16))))
        ∧ ∀ y te, r = .candidate y te → exec (.scanResult raw) s = .next (u.work fun e w =>
          (complete e 6 i te false te { (if cfg.report = true then w.offer record else w) with
            held := held, trackers := w.trackers.set i (.waiting y), pstate := v.patState }).endFollows))

/-- R16, R24, R27, R28, R29: a press that has lasted MAX_HOLD × 100 ms at its result is declared stuck, also at a result
at an extreme that leaves SAT_COUNT below 3: a STUCK record stamped with the current time, the release at the matcher
and the outputs, BASELINE rebased to RAW, IDLE, and CHANNEL_ALERT. (The release with no tracker in use, and as the
matcher handles it with any.) -/
def Obligations.LongPressesAreDeclaredStuck : Prop :=
  ∀ (s : State) (t : Time) (list : List Chan) (c : Chan) (rest : List Chan) (raw : Fin 4096),
    s.Delivers t list c rest → ∀ (l l' : ChanLive) (cfg : ChanCfg), l = s.chanLive[c] → cfg = s.chanCfg[c] →
    l' = l.counted raw → l'.satCount < 3 →
    (l.state = .pressed ∨ l.state = .releasing) → cfg.maxHold ≠ 0 →
    cfg.maxHold * 100 ≤ (t - l.pressTime).toNat →
    ∀ (u : State) (dur : Short) (record : Record),
    u = s.delivered list c rest
      { l' with state := .idle, baseline := raw.val, signal := 0, debounce := 0, track := 0 } →
    dur = BitVec.ofNat 16 (min (s.time - l.pressTime).toNat 65535) →
    record = .channel c .stuck (s.time.setWidth 16) dur →
    (s.NoTracker → exec (.scanResult raw) s = .next
      (((u.queued cfg.report record).released c).raise .channelAlert))
    ∧ exec (.scanResult raw) s = .next (u.work fun e w => ((matchEvent e
        { chan := c, press := false, time := s.time, cause := .stuck, duration := dur }
        (if cfg.report = true then w.offer record else w)).endFollows).raise .channelAlert)

/-- R16, R19, R20, R25, R27: a result at an extreme is counted on the saturation extreme; the third in a row faults the
channel, with the release of a channel that is down first, then the FAULT record and CHANNEL_ALERT (the release with no
tracker in use, and as the matcher handles it with any); a baseline step, below the band or within it toward RAW, that
changes BASELINE to a value further than DRIFT_LIMIT from REFERENCE faults the channel with DRIFT. (That the eighth
result in SETTLING, at an extreme, leaves SAT_COUNT as it counted it on the move to IDLE is the model's deduction,
log 23.) -/
def Obligations.FaultsAreEntered : Prop :=
  ∀ (s : State) (t : Time) (list : List Chan) (c : Chan) (rest : List Chan) (raw : Fin 4096),
    s.Delivers t list c rest → ∀ (l l' : ChanLive) (cfg : ChanCfg), l = s.chanLive[c] → cfg = s.chanCfg[c] →
    l' = l.counted raw →
    ((raw.val = 0 ∨ raw.val = 4095) → c ∈ measuredIn s.chanLive → ∃ u, exec (.scanResult raw) s = .next u
      ∧ u.chanLive[c].satHigh = (raw.val == 4095)
      ∧ u.chanLive[c].satCount =
          if l.satCount ≠ 0 ∧ l.satHigh = (raw.val == 4095) then l.satCount + 1 else 1)
    ∧ ((raw.val = 0 ∨ raw.val = 4095) → c ∈ measuredIn s.chanLive → l.satCount = 2 →
      l.satHigh = (raw.val == 4095) → ∀ (u : State) (reason : FaultReason) (dur : Short) (release fault : Record),
      reason = (if raw.val = 4095 then .isOpen else .short) →
      u = s.delivered list c rest { l with
        state := .fault, raw := raw.val, signal := (raw.val : Int) - l.baseline, satCount := 3, debounce := 0
        faultReason := reason } →
      dur = BitVec.ofNat 16 (min (s.time - l.pressTime).toNat 65535) →
      release = .channel c (.release .fault) (s.time.setWidth 16) dur →
      fault = .channel c (.fault reason) (s.time.setWidth 16) 0 →
      (l.state.isDown = false → exec (.scanResult raw) s = .next ((u.queued cfg.report fault).raise .channelAlert))
      ∧ (l.state.isDown = true →
        (s.NoTracker → exec (.scanResult raw) s = .next
          ((((u.queued cfg.report release).released c).queued cfg.report fault).raise .channelAlert))
        ∧ exec (.scanResult raw) s = .next (u.work fun e w =>
          let v := (matchEvent e { chan := c, press := false, time := s.time, cause := .fault, duration := dur }
            (if cfg.report = true then w.offer release else w)).endFollows
          (if cfg.report = true then v.offer fault else v).raise .channelAlert)))
    ∧ (∀ b : Nat, b = l.trackedBaseline cfg raw.val → l.state = .idle → l'.satCount < 3 →
      (raw.val : Int) - l.baseline < cfg.touch → b ≠ l.baseline → cfg.driftLimit ≠ 0 →
      cfg.driftLimit < ((b : Int) - l.reference).natAbs →
      exec (.scanResult raw) s = .next
        (((s.delivered list c rest
            { l' with state := .fault, baseline := b, track := 0, debounce := 0, faultReason := .drift }).queued
          cfg.report (.channel c (.fault .drift) (s.time.setWidth 16) 0)).raise .channelAlert))

/-- R34: RECALIBRATE sends every channel of its set that is not OFF to SETTLING, or to SUSPENDED while the scanner is
STOPPED, with its counts cleared and its release first where it is PRESSED or RELEASING; the other channels are as they
were. Where no channel of the set is down, that is all it does; where the set is one channel that is down and no
tracker is in use, the release is as said. R26, R27, R79: whatever trackers are in use, the RECAL release of each channel
of the set that is down is handed on whole, in ascending channel order, each before the next. -/
def Obligations.RecalibrateSettlesTheSet : Prop :=
  ∀ (s : State) (set : ChanSet) (target : ChanState), s.Takes →
    set = (s.engine.arg0.setWidth 12 ||| s.engine.arg1.setWidth 12 <<< 8) →
    target = (if s.scanner.running then .settling else .suspended) →
    (∃ t, exec .recalibrate s = .next t
      ∧ (∀ c : Chan, t.chanLive[c] = if set.getLsbD c.val = true ∧ s.chanLive[c].state ≠ .off then
          s.chanLive[c].cleared target else s.chanLive[c])
      ∧ (∀ c : Chan, set.getLsbD c.val = true → s.chanLive[c].state.isDown = true → hasChan t.held c = false)
      ∧ t.engine = (s.posted 0x2A#8 .ok 0).engine
      ∧ ((∀ c : Chan, set.getLsbD c.val = true → s.chanLive[c].state.isDown = false) →
          t = { s with chanLive := t.chanLive }.posted 0x2A#8 .ok 0))
    ∧ exec .recalibrate s = .next
        (({ s with
              chanLive := Vector.ofFn fun d : Chan => if set.getLsbD d.val = true ∧ s.chanLive[d].state ≠ ChanState.off then
                s.chanLive[d].cleared target else s.chanLive[d] }.releasedInTurn .recal
            fun c => set.getLsbD c.val && s.chanLive[c].state.isDown).posted 0x2A#8 .ok 0)
    ∧ (∀ c : Chan, set = 1#12 <<< c.val → s.chanLive[c].state.isDown = true → s.NoTracker →
      exec .recalibrate s = .next
        ((({ s with chanLive := s.chanLive.set c (s.chanLive[c].cleared target) }.queued s.chanCfg[c].report
          (.channel c (.release .recal) (s.time.setWidth 16)
            (BitVec.ofNat 16 (min (s.time - s.chanLive[c].pressTime).toNat 65535)))).released c).posted
          0x2A#8 .ok 0))

/-- R30, R31: WRITE_RECORD of table CHANNEL is refused with BAD_INDEX or with BAD_VALUE and the failing field, with
nothing else changed; accepted, it stores the record and moves the channel by its state and the new ENABLE. R26, R27,
R79: the DISABLED release of a channel that is down is handed on under the new record, as said where no tracker is in
use, and whole whatever trackers are in use. -/
def Obligations.ChannelWritesMoveTheChannel : Prop :=
  ∀ s : State, s.Takes → s.engine.arg0 = 1 →
    (12 ≤ s.engine.arg1.toNat → exec .writeRecord s = .next (s.posted 0x02#8 .badIndex 1))
    ∧ ∀ c : Chan, s.engine.arg1 = BitVec.ofNat 8 c.val →
      (∀ n, readChannel s.engine.buf = .bad n →
        exec .writeRecord s = .next (s.posted 0x02#8 .badValue (BitVec.ofNat 8 n)))
      ∧ ∀ (cfg : ChanCfg) (l : ChanLive), readChannel s.engine.buf = .good cfg → l = s.chanLive[c] →
        (cfg.enable = true → (l.state = .off ∨ l.state = .fault) →
          exec .writeRecord s = .next
            ({ s with chanCfg := s.chanCfg.set c cfg
                      chanLive := s.chanLive.set c (l.cleared (if s.scanner.running then .settling else .suspended))
              }.posted 0x02#8 .ok 0))
        ∧ (cfg.enable = true → l.state ∈ measuredStates →
          exec .writeRecord s = .next ({ s with chanCfg := s.chanCfg.set c cfg }.posted 0x02#8 .ok 0))
        ∧ (l.state ≠ .off → cfg.enable = true ∧ l.state = .suspended ∨ cfg.enable = false ∧ l.state.isDown = false →
          exec .writeRecord s = .next
            ({ s with chanCfg := s.chanCfg.set c cfg
                      chanLive := s.chanLive.set c (l.cleared (if cfg.enable then .suspended else .off))
              }.posted 0x02#8 .ok 0))
        ∧ (cfg.enable = false → l.state = .off →
          exec .writeRecord s = .next ({ s with chanCfg := s.chanCfg.set c cfg }.posted 0x02#8 .ok 0))
        ∧ (cfg.enable = false → l.state.isDown = true →
          exec .writeRecord s = .next (({ s with
            chanCfg := s.chanCfg.set c cfg
            chanLive := s.chanLive.set c (l.cleared .off) }.releasedFor .disabled c).posted 0x02#8 .ok 0))
        ∧ (cfg.enable = false → l.state.isDown = true → s.NoTracker →
          exec .writeRecord s = .next
            ((({ s with chanCfg := s.chanCfg.set c cfg
                        chanLive := s.chanLive.set c (l.cleared .off) }.queued cfg.report
              (.channel c (.release .disabled) (s.time.setWidth 16)
                (BitVec.ofNat 16 (min (s.time - l.pressTime).toNat 65535)))).released c).posted 0x02#8 .ok 0))

/-! ## Command engine and records -/

/-- R158, R144, R112, R113, R157: WRITE_RECORD of GLOBALS and of OUTPUT: accepted, it stores the record, offers the
ADDRESS to the port, and gives the output the state of its new record; refused, it posts its result and changes nothing
else. -/
def Obligations.GlobalsAndOutputWrites : Prop :=
  ∀ s : State, s.Takes →
    (s.engine.arg0 = 0 →
      (∀ n, readGlobals s.engine.buf = .bad n →
        exec .writeRecord s = .next (s.posted 0x02#8 .badValue (BitVec.ofNat 8 n)))
      ∧ ∀ g, readGlobals s.engine.buf = .good g →
        exec .writeRecord s = .next
          ({ s with globals := g
                    port := if s.port.strap then s.port
                      else { s.port with waiting := if g.address = s.port.inUse then none else some g.address }
            }.posted 0x02#8 .ok 0))
    ∧ (s.engine.arg0 = 3 →
      (6 ≤ s.engine.arg1.toNat → exec .writeRecord s = .next (s.posted 0x02#8 .badIndex 1))
      ∧ ∀ o : OutIdx, s.engine.arg1 = BitVec.ofNat 8 o.val →
        (∀ n, readOutput s.engine.buf = .bad n →
          exec .writeRecord s = .next (s.posted 0x02#8 .badValue (BitVec.ofNat 8 n)))
        ∧ ∀ c, readOutput s.engine.buf = .good c →
          exec .writeRecord s = .next
            ({ s with outCfg := s.outCfg.set o c
                      outState := s.outState.set o
                        (if c.enable = false then .off else if c.initialHigh then .high else .low)
              }.posted 0x02#8 .ok 0))
    ∧ (s.engine.arg0 ∈ [2#8, 4#8, 5#8, 6#8, 7#8] → exec .writeRecord s = .next (s.posted 0x02#8 .readOnly 0))
    ∧ (8 ≤ s.engine.arg0.toNat → exec .writeRecord s = .next (s.posted 0x02#8 .badIndex 0))

/-- R156, R59: READ_RECORD fills the buffer with the record that its arguments name, as it stands, and changes nothing
else but its result; refused, it leaves the buffer as it was. R183: each of the eight tables has the layout of its
section (10.4) byte by byte, with 00h at every unused offset and each enumerated field as its code (10.3). -/
def Obligations.ReadRecordShowsTheRecordAsked : Prop :=
  ∀ (s : State) (filled : Buf → Host.Outcome State Fault Refusal), s.Takes →
    (∀ b, filled b = .next ({ s with engine := { s.engine with buf := b } }.posted 0x01#8 .ok 0)) →
    (s.engine.arg0 = 0 → exec .readRecord s = filled (showGlobals s.globals))
    ∧ (∀ c : Chan, s.engine.arg1 = BitVec.ofNat 8 c.val →
        (s.engine.arg0 = 1 → exec .readRecord s = filled (showChannel s.chanCfg[c]))
        ∧ (s.engine.arg0 = 2 → exec .readRecord s = filled (showLive s.chanLive[c])))
    ∧ (∀ o : OutIdx, s.engine.arg1 = BitVec.ofNat 8 o.val → s.engine.arg0 = 3 →
        exec .readRecord s = filled (showOutput s.outCfg[o] s.outState[o]))
    ∧ (∀ p : PatIdx, s.engine.arg1 = BitVec.ofNat 8 p.val →
        (s.engine.arg0 = 4 → exec .readRecord s = filled (showPattern s.patDef[p] s.patState[p]))
        ∧ (s.engine.arg0 = 5 →
          (∀ x, s.patDef[p].steps[s.engine.arg2.toNat]? = some x → exec .readRecord s = filled (showStep x))
          ∧ (s.patDef[p].steps.length ≤ s.engine.arg2.toNat →
              exec .readRecord s = .next (s.posted 0x01#8 .badIndex 2))))
    ∧ (∀ t : SlotIdx, s.engine.arg1 = BitVec.ofNat 8 t.val → s.engine.arg0 = 6 →
        exec .readRecord s = filled (showTracker s.trackers[t]))
    ∧ (s.engine.arg0 = 7 → exec .readRecord s = filled (showStore s.store))
    ∧ (8 ≤ s.engine.arg0.toNat → exec .readRecord s = .next (s.posted 0x01#8 .badIndex 0))
    ∧ ((s.engine.arg0 ∈ [1#8, 2#8] ∧ 12 ≤ s.engine.arg1.toNat ∨ s.engine.arg0 ∈ [3#8, 6#8] ∧ 6 ≤ s.engine.arg1.toNat
        ∨ s.engine.arg0 ∈ [4#8, 5#8] ∧ 24 ≤ s.engine.arg1.toNat) →
        exec .readRecord s = .next (s.posted 0x01#8 .badIndex 1))
    ∧ (∀ g : Globals, (showGlobals g).toList = recordOf (leBytes 1 g.scanPeriod ++ flagByte g.scanAtStart
        ++ leBytes 1 g.address.toNat))
    ∧ (∀ c : ChanCfg, (showChannel c).toList = recordOf (flagByte c.enable ++ flagByte c.report ++ leBytes 2 c.touch
        ++ leBytes 2 c.hyst ++ leBytes 1 c.pressDb ++ leBytes 1 c.releaseDb ++ leBytes 1 c.noiseBand
        ++ leBytes 1 c.trackInterval ++ leBytes 1 c.maxHold ++ leBytes 2 c.driftLimit))
    ∧ (∀ l : ChanLive, (showLive l).toList = recordOf ([l.state.code] ++ leBytes 2 l.raw ++ leBytes 2 l.baseline
        ++ leBytes 2 l.reference ++ leBytes 2 (l.signal % 65536).toNat ++ leBytes 1 l.debounce ++ leBytes 1 l.satCount
        ++ [l.faultReason.code] ++ leBytes 2 l.pressTime.toNat ++ leBytes 1 l.settleCount))
    ∧ (∀ (c : OutCfg) (o : OutState), (showOutput c o).toList = recordOf (flagByte c.enable
        ++ flagByte (c.drive == .openDrain) ++ flagByte (c.polarity == .activeLow) ++ flagByte (c.mode == .host)
        ++ flagByte (c.retrigger == .keep) ++ flagByte c.initialHigh ++ [0, 0] ++ (match o with
          | .off => [0x00#8, 0, 0, 0, 0]
          | .low => [0x01#8, 0, 0, 0, 0]
          | .high => [0x02#8, 0, 0, 0, 0]
          | .pulsing due => [0x03#8] ++ leBytes 2 due.toNat ++ [0, 0]
          | .following set => [0x04#8, 0, 0] ++ leBytes 2 set.toNat)))
    ∧ (∀ (d : PatDef) (st : PatState) (h : PatHeader), h = d.header → (showPattern d st).toList =
        leBytes 1 h.priority.val ++ [h.tag] ++ flagByte h.strict ++ flagByte h.claim ++ flagByte h.defer
        ++ flagByte h.reportDone ++ flagByte h.reportAbort
        ++ [match h.rearm with | .once => 0x00#8 | .again => 0x01#8 | .afterRelease => 0x02#8]
        ++ flagByte h.startEnabled ++ leBytes 1 h.window
        ++ (match h.actionOut with
          | none => [0xFF#8]
          | some o => leBytes 1 o.val)
        ++ [match h.actionOp with
          | .set => 0x00#8 | .clear => 0x01#8 | .toggle => 0x02#8 | .pulse => 0x03#8 | .follow => 0x04#8]
        ++ leBytes 1 h.pulseLen ++ leBytes 1 (st.code.toNat + 16 * d.steps.length) ++ leBytes 2 d.univ.toNat)
    ∧ (∀ x : Step, (showStep x).toList = recordOf
        ([match x.kind with | .chord => 0x01#8 | .tap => 0x02#8 | .hold => 0x03#8 | .lift => 0x04#8 | .quiet => 0x05#8]
        ++ leBytes 2 x.channels.toNat ++ leBytes 1 x.earliest ++ leBytes 1 x.latest ++ leBytes 1 x.span))
    ∧ (showTracker .free).toList = recordOf []
    ∧ (∀ w : Waiting, (w.chordStart = none ∨ w.tapPress = none) → (showTracker (.waiting w)).toList = recordOf
        ([0x01] ++ leBytes 1 w.pattern.val ++ leBytes 1 w.step
        ++ leBytes 1 (dueKindNumber w.stepDue + (if w.overallDue.isSome then 16 else 0)
          + (if w.chordStart.isSome then 32 else 0) + (if w.tapPress.isSome then 64 else 0))
        ++ leBytes 2 w.startTime.toNat ++ leBytes 2 w.stepStart.toNat ++ leBytes 2 w.collected.toNat
        ++ shortOf (w.chordStart <|> w.tapPress) ++ shortOf (w.stepDue.map Prod.snd) ++ shortOf w.overallDue))
    ∧ (∀ x : Pending, (showTracker (.pending x)).toList = recordOf
        ([0x02] ++ leBytes 1 x.pattern.val ++ leBytes 1 x.step ++ [0x00] ++ leBytes 2 x.startTime.toNat
        ++ leBytes 2 x.stepStart.toNat ++ leBytes 2 x.endTime.toNat ++ leBytes 3 x.blockers.toNat))
    ∧ (∀ st : Store, (showStore st).toList = recordOf
        ([st.record.a.state.code] ++ leBytes 2 st.record.a.generation.toNat ++ [st.record.b.state.code]
        ++ leBytes 2 st.record.b.generation.toNat
        ++ [match st.current with | none => 0x00#8 | some .a => 0x01#8 | some .b => 0x02#8]
        ++ [match st.source with | .factory => 0x00#8 | .bank .a => 0x01#8 | .bank .b => 0x02#8]
        ++ leBytes 1 ((if st.damagedAtStart.a then 1 else 0) + (if st.damagedAtStart.b then 2 else 0))))
    ∧ [ChanState.off, .settling, .idle, .arming, .pressed, .releasing, .suspended, .fault].map ChanState.code
        = [0, 1, 2, 3, 4, 5, 6, 7]
    ∧ [FaultReason.none, .isOpen, .short, .drift].map FaultReason.code = [0, 1, 2, 3]
    ∧ [PatState.empty, .building, .disabled, .ready, .active, .spent, .locked].map PatState.code
        = [0, 1, 2, 3, 4, 5, 6]
    ∧ [BankState.blank, .valid, .damaged].map BankState.code = [0, 1, 2]

/-- R182, R183: a record that READ_RECORD returns, judged again from the buffer unchanged, is accepted as the record
that was shown; a record that is accepted from the buffer is in range, and showing it gives the bytes it was read from.
R30, R40, R42, R112, R158: a record is refused with the number of its lowest-numbered failing field, and only where a
field fails (a step's fields 2 to 5 by the row of a KIND that meets its own condition). -/
def Obligations.RecordsReadBackAsShown : Prop :=
  (∀ g : Globals, g.wf = true → readGlobals (showGlobals g) = .good g)
  ∧ (∀ c : ChanCfg, c.wf = true → readChannel (showChannel c) = .good c)
  ∧ (∀ (c : OutCfg) (o : OutState), readOutput (showOutput c o) = .good c)
  ∧ (∀ (d : PatDef) (st : PatState), d.header.wf = true → readHeader (showPattern d st) = .good d.header)
  ∧ (∀ (before : List Step) (x : Step), stepsWf before.reverse [x] = true →
      readStep (showStep x) before = .good x)
  ∧ (∀ (b : Buf) (g : Globals), readGlobals b = .good g → g.wf = true)
  ∧ (∀ (b : Buf) (c : ChanCfg), readChannel b = .good c → c.wf = true)
  ∧ (∀ (b : Buf) (h : PatHeader), readHeader b = .good h → h.wf = true)
  ∧ (∀ (b : Buf) (before : List Step) (x : Step), readStep b before = .good x →
      stepsWf before.reverse [x] = true)
  ∧ (∀ (b : Buf) (n : Nat), readGlobals b = .bad n ↔ LowestFails (GlobalsFieldFails b) n)
  ∧ (∀ (b : Buf) (n : Nat), readChannel b = .bad n ↔ LowestFails (ChannelFieldFails b) n)
  ∧ (∀ (b : Buf) (n : Nat), readOutput b = .bad n ↔ LowestFails (OutputFieldFails b) n)
  ∧ (∀ (b : Buf) (n : Nat), readHeader b = .bad n ↔ LowestFails (HeaderFieldFails b) n)
  ∧ (∀ (b : Buf) (steps : List Step) (n : Nat), readStep b steps = .bad n ↔ LowestFails (StepFieldFails b steps) n)
  ∧ ∀ (b : Buf) (k : Fin 16),
    (∀ g, readGlobals b = .good g → k < 3 → (showGlobals g)[k] = b[k])
    ∧ (∀ c, readChannel b = .good c → k < 13 → (showChannel c)[k] = b[k])
    ∧ (∀ c o, readOutput b = .good c → k < 6 → (showOutput c o)[k] = b[k])
    ∧ (∀ h d st, readHeader b = .good h → d.header = h → k < 13 → (showPattern d st)[k] = b[k])
    ∧ (∀ steps x, readStep b steps = .good x → k < 6 → (showStep x)[k] = b[k])

/-- Section 10.3.1, R150, R153: each of the 21 codes names its command as the table says, every other byte is offered as
BAD_COMMAND, and the code of a command is the byte that names it. While a long command is in flight every byte written to CMD is
acknowledged and refused, and does nothing but set CMD_OVERRUN; otherwise a byte that is no command code is taken and
ends with BAD_COMMAND. -/
def Obligations.CommandBytesNameOrAreRefused : Prop :=
  (∀ b : Byte, cmdCode (cmdRow b) = some b ∧ (cmdRow b).wf = true)
  ∧ (∀ (i : Instr) (b : Byte), cmdCode i = some b → i.wf = true → cmdRow b = i)
  ∧ (∀ b : Byte, isCommandCode b = true ↔ b ∈ [0x01#8, 0x02, 0x10, 0x11, 0x12, 0x13, 0x14, 0x15, 0x16, 0x17, 0x18,
      0x20, 0x28, 0x29, 0x2A, 0x30, 0x40, 0x41, 0x42, 0x43, 0x4F])
  ∧ [0x01#8, 0x02, 0x10, 0x11, 0x12, 0x13, 0x14, 0x15, 0x16, 0x17, 0x18, 0x20, 0x28, 0x29, 0x2A, 0x30, 0x40, 0x41, 0x42,
      0x43, 0x4F].map cmdRow
    = [.readRecord, .writeRecord, .beginPattern, .appendStep, .endPattern, .abandonPattern, .revisePattern,
      .deletePattern, .enablePattern, .disablePattern, .armPattern, .flushTrackers, .startScan, .stopScan, .recalibrate,
      .clearQueue, .commit, .restoreStored, .restoreFactory, .eraseStored, .reinit]
  ∧ (∀ b : Byte, isCommandCode b = false → cmdRow b = .badCommand b)
  ∧ (∀ (i : Instr) (s : State), i.isCmdByte = true → s.WritesAt 0x0C#6 → s.engine.inFlight.isSome = true →
    exec i s = .next { s.acked with flags := s.flags ||| 0x02#6 })
  ∧ ∀ (b : Byte) (s : State), isCommandCode b = false → s.Takes →
    exec (.badCommand b) s = .next (s.posted b .badCommand 0)

/-! ## Host port -/

/-- R145: a data byte of a write transaction, whatever register it reaches and whatever it does there, is acknowledged
and advances the register pointer by one, with the transaction still open; but for the byte of an accepted REINIT,
which ends the transaction and begins a start-up load. -/
def Obligations.EveryDataByteAdvancesThePointer : Prop :=
  ∀ (s : State) (a : RegAddr) (b : Byte), s.WritesAt a → ∃ t, exec (writeRow a b) s = .next t ∧ t.port.ack = true
    ∧ (if a = 0x0C#6 ∧ b = 0x4F#8 ∧ s.engine.inFlight = none then t.mode = .loading .reinit
        else t.mode = .running ∧ t.port.bus = .writeData ∧ t.port.pointer = a + 1)

/-- R144, R145, R147, R148: the part answers its address in use, and no other, while it is present; a START or a
repeated START discards the snapshot. The pointer byte's low six bits become the register pointer; a STOP discards the
snapshot and puts a waiting address in use. Absent, the part acknowledges no byte and nothing else changes. (The answer
on SDA is the model's own field `port.ack`, log 6.) -/
def Obligations.AddressPointerAndStop : Prop :=
  (∀ (s : State) (addr : BusAddr) (read : Bool) (i : Instr),
    (i = .addressByte addr read ∨ i = .repeatedStart addr read) →
    (s.mode = .running → addr = s.port.inUse →
      exec i s = .next { s with port :=
        { s.port with snapshot := none, ack := true, bus := if read then .readFirst else .writePointer } })
    ∧ (s.mode = .running → addr ≠ s.port.inUse →
      exec i s = .next { s with port := { s.port with snapshot := none, ack := false, bus := .other } })
    ∧ (s.mode ≠ .running → exec i s = .next { s with port := { s.port with ack := false } }))
  ∧ (∀ (s : State) (b : Byte), s.mode = .running → s.port.bus = .writePointer →
    exec (.pointerByte b) s = .next { s with port :=
      { s.port with pointer := b.setWidth 6, ack := true, bus := .writeData } })
  ∧ (∀ (s : State) (a : RegAddr) (b : Byte), s.mode ≠ .running →
    exec (writeRow a b) s = .next { s with port := { s.port with ack := false } }
      ∧ exec (.pointerByte b) s = .next { s with port := { s.port with ack := false } })
  ∧ (∀ s : State, s.mode = .running → s.port.waiting = none →
    exec .stopCondition s = .next { s with port := { s.port with bus := .idle, snapshot := none } })
  ∧ ∀ (s : State) (addr : BusAddr), s.mode = .running → s.port.waiting = some addr →
    exec .stopCondition s = .next { s with port :=
      { s.port with bus := .idle, snapshot := none, inUse := addr, waiting := none } }

/-- R155, R181: a byte written to ARG0 to ARG2 or to the record buffer is stored and reads back as written; written to
any other register without an action it is acknowledged and ignored. -/
def Obligations.RegisterWritesStoreOrIgnore : Prop :=
  ∀ (s : State) (a : RegAddr) (b : Byte), s.WritesAt a → hasOwnRow a = false →
    (a = 0x10#6 → exec (.registerWrite b) s = .next { s.acked with engine := { s.engine with arg0 := b } })
    ∧ (a = 0x11#6 → exec (.registerWrite b) s = .next { s.acked with engine := { s.engine with arg1 := b } })
    ∧ (a = 0x12#6 → exec (.registerWrite b) s = .next { s.acked with engine := { s.engine with arg2 := b } })
    ∧ (∀ k : Fin 16, a = 0x30#6 + BitVec.ofNat 6 k.val →
        exec (.registerWrite b) s = .next { s.acked with engine := { s.engine with buf := s.engine.buf.set k b } })
    ∧ (a ∉ [0x10#6, 0x11, 0x12] → a.toNat < 0x30 → exec (.registerWrite b) s = .next s.acked)
    ∧ ∀ t, exec (.registerWrite b) s = .next t → (a ∈ [0x10#6, 0x11, 0x12] ∨ 0x30 ≤ a.toNat) → t.readReg a = b

/-- R146, R148: a byte of a read transaction returns the register that the pointer names, live, and advances the
pointer, where the transaction took no snapshot and where its snapshot is used up (the bytes beyond the register's
end, and a second pass through it); the first byte of a transaction that begins at HELD, TIME or QUEUE_HEAD returns the first byte of the whole
register and keeps the rest of it as the snapshot. R149, R131, R164, R181: what each register of the window reads as
(section 10.2; OUT_STATE has its own statement). R184: the eight bytes of each kind of queue record (section 10.5). -/
def Obligations.ReadsReturnTheRegister : Prop :=
  (∀ s : State, s.mode = .running → (s.port.bus = .readFirst ∨ s.port.bus = .readMore) →
    (s.port.snapshot = none ∨ s.port.bus = .readMore ∧ s.port.snapshot = some []) →
    (s.port.bus = .readFirst → s.port.pointer ∉ [0x06#6, 0x08, 0x20]) →
    exec .readByteTransmitted s = .next { s with port :=
      { s.port with sent := some (s.readReg s.port.pointer), pointer := s.port.pointer + 1, bus := .readMore } })
  ∧ (∀ (s : State) (i : Instr) (whole : List Byte), (i = .snapshotRead ∨ i = .readByteTransmitted) →
    s.mode = .running → s.port.bus = .readFirst →
    (s.port.pointer = 0x06#6 ∧ whole = [s.held.setWidth 8, (s.held >>> 8).setWidth 8]
      ∨ s.port.pointer = 0x08#6 ∧ whole = [s.time.setWidth 8, (s.time >>> 8).setWidth 8, (s.time >>> 16).setWidth 8,
          (s.time >>> 24).setWidth 8]
      ∨ s.port.pointer = 0x20#6 ∧ whole = (match s.report.records with
          | [] => List.replicate 8 0
          | r :: _ => r.bytes)) →
    exec i s = .next { s with port :=
      { s.port with sent := whole.head?, snapshot := some whole.tail, pointer := s.port.pointer + 1,
                    bus := .readMore } })
  ∧ (∀ (s : State) (scan build : Nat),
    ((∃ x, s.engine.inFlight = some (.restore x)) ∧ scan = 2
      ∨ (∀ x, s.engine.inFlight ≠ some (.restore x)) ∧ scan = if s.scanner.running then 1 else 0) →
    build = (match s.build with
      | none => 0
      | some p => 128 + 4 * p.val) →
    [0x00#6, 0x01, 0x02, 0x03, 0x04, 0x05, 0x06, 0x07].map s.readReg =
      [0x5C, 0x01, match s.resetCause with | .powerOn => 0x01#8 | .pin => 0x02#8 | .reinit => 0x03#8]
        ++ leBytes 1 (scan + build) ++ leBytes 1 s.flags.toNat ++ leBytes 1 s.attnMask.toNat ++ leBytes 2 s.held.toNat
    ∧ [0x08#6, 0x09, 0x0A, 0x0B].map s.readReg = leBytes 4 s.time.toNat
    ∧ [0x0C#6, 0x0D, 0x0E, 0x0F, 0x10, 0x11, 0x12].map s.readReg =
      [s.engine.cmd, match s.engine.status with | .idle => 0x00#8 | .busy => 0x01#8 | .done => 0x02#8 | .error => 0x03#8,
        s.engine.result.code, s.engine.detail, s.engine.arg0, s.engine.arg1, s.engine.arg2]
    ∧ [0x13#6, 0x14, 0x15, 0x16, 0x18, 0x19, 0x1A].map s.readReg =
      leBytes 1 s.report.records.length ++ [0x00] ++ leBytes 1 s.report.lost ++ leBytes 1 s.outLevel.toNat
        ++ leBytes 1 s.poolFree ++ leBytes 1 ((List.finRange 6).countP fun t => s.trackers[t] ≠ .free)
        ++ leBytes 1 ((if s.engine.inFlight = none then 0 else 1)
          + 4 * (match s.store.current with | none => 0 | some .a => 1 | some .b => 2)
          + 16 * (match s.store.source with | .factory => 0 | .bank .a => 1 | .bank .b => 2))
    ∧ (∀ a : RegAddr, (0x1B ≤ a.toNat ∧ a.toNat ≤ 0x1F ∨ 0x28 ≤ a.toNat ∧ a.toNat ≤ 0x2F) → s.readReg a = 0x00)
    ∧ (∀ k : Fin 8, s.readReg (0x20#6 + BitVec.ofNat 6 k.val) = (match s.report.records with
        | [] => 0x00#8
        | r :: _ => r.bytes.getD k.val 0x00))
    ∧ ∀ k : Fin 16, s.readReg (0x30#6 + BitVec.ofNat 6 k.val) = s.engine.buf[k])
  ∧ [Result.ok, .badCommand, .badIndex, .badValue, .badState, .poolFull, .tooManySteps, .buildOpen, .noBuild,
      .invalidPattern, .noImage, .storeFailed, .readOnly].map Result.code
      = [0x00, 0x01, 0x02, 0x03, 0x04, 0x05, 0x06, 0x07, 0x08, 0x09, 0x0A, 0x0B, 0x0C]
  ∧ (∀ (p : PatIdx) (tag : Byte) (start stop : Short) (deferred skipped : Bool),
    (Record.recognized p tag start stop deferred skipped).bytes = [0x01] ++ leBytes 1 p.val ++ [tag]
      ++ leBytes 2 start.toNat ++ leBytes 2 stop.toNat
      ++ leBytes 1 ((if deferred then 1 else 0) + (if skipped then 2 else 0)))
  ∧ (∀ (p : PatIdx) (tag : Byte) (n : Nat) (r : Reason) (time : Short), (Record.aborted p tag n r time).bytes =
    [0x02] ++ leBytes 1 p.val ++ [tag] ++ leBytes 1 n ++ [r.code] ++ leBytes 2 time.toNat ++ [0])
  ∧ [Reason.early, .late, .expired, .split, .broken, .long, .holdLost, .interrupted, .foreign, .channelLost, .evicted,
      .superseded, .cancelled].map Reason.code = [1, 2, 3, 4, 5, 6, 7, 8, 9, 10, 11, 12, 13]
  ∧ (∀ (p : PatIdx) (tag : Byte) (time : Short), (Record.refused p tag time).bytes =
    [0x03] ++ leBytes 1 p.val ++ [tag] ++ leBytes 2 time.toNat ++ [0, 0, 0])
  ∧ (∀ (c : Chan) (note : ChanNote) (time dur : Short), (Record.channel c note time dur).bytes =
    [0x04] ++ leBytes 1 c.val ++ (match note with
      | .press => [0x00#8, 0x00]
      | .release cause => [0x01#8, match cause with
          | .natural => 0x00#8 | .disabled => 0x01#8 | .fault => 0x02#8 | .stuck => 0x03#8 | .halt => 0x04#8 | .recal => 0x05#8]
      | .stuck => [0x02#8, 0x03]
      | .fault reason => [0x03#8, match reason with
          | .none => 0x00#8 | .isOpen => 0x01#8 | .short => 0x02#8 | .drift => 0x03#8]) ++ leBytes 2 time.toNat ++ leBytes 2 dur.toNat)
  ∧ ∀ (count : Nat) (time : Short), (Record.lost count time).bytes =
    [0x05] ++ leBytes 1 count ++ leBytes 2 time.toNat ++ [0, 0, 0, 0]

/-- R148: while a snapshot lasts, a read returns its next byte, whatever happenings of the part's own blocks and of its
store fall between the bytes, and leaves the rest of the port, an address that waits among it, as they left it. -/
def Obligations.SnapshotBytesAreOfOneMoment : Prop :=
  ∀ (s : State) (events : List Instr) (b : Byte) (rest : List Byte), (∀ i ∈ events, i.isPartEvent = true) →
    s.mode = .running → s.port.bus = .readMore → s.port.snapshot = some (b :: rest) →
    ∃ t, execAll events s = .next t ∧ t.port.pointer = s.port.pointer ∧ exec .readByteTransmitted t = .next { t with
      port := { t.port with sent := some b, snapshot := some rest, pointer := t.port.pointer + 1 } }

/-! ## Flags, attention and the report queue -/

/-- R138, R139, R140, R141: a byte written to FLAGS clears each flag whose bit is 1; a byte written to ATTN_MASK stores
its low seven bits; ATN_N is asserted, of a running part, while some set flag has its enable bit set or QUEUE_READY is
set and the queue holds a record, and otherwise it is released. -/
def Obligations.FlagsMaskAndAttentionLine : Prop :=
  (∀ (s : State) (b : Byte),
    (s.WritesAt 0x04#6 → exec (.flagsWrite b) s = .next { s.acked with flags := s.flags &&& ~~~(b.setWidth 6) })
    ∧ (s.WritesAt 0x05#6 → exec (.attnMaskWrite b) s = .next { s.acked with attnMask := b.setWidth 7 }))
  ∧ ∀ s : State, s.atnAsserted = true ↔ s.mode = .running
    ∧ ((∃ i : Fin 6, s.flags.getLsbD i.val = true ∧ s.attnMask.getLsbD i.val = true)
      ∨ s.attnMask.getLsbD 6 = true ∧ s.report.records ≠ [])

/-- R129: a push is appended while the queue holds 0 to 31 records, with LOST_COUNT and the flags unchanged; while it
holds 32 the record is dropped, LOST_COUNT rises by 1 up to 255, and QUEUE_LOST is set. -/
def Obligations.PushesAppendOrAreCounted : Prop :=
  ∀ (s : State) (r : Record),
    (s.report.records.length < 32 →
      s.push r = { s with report := { records := s.report.records ++ [r], lost := s.report.lost } })
    ∧ (s.report.records.length = 32 →
      s.push r = { s with report := { records := s.report.records, lost := min (s.report.lost + 1) 255 }
                          flags := s.flags ||| 0x10#6 })

/-- R132, R133: a byte with POP 0 does nothing to the queue; a pop of an empty queue changes nothing; with LOST_COUNT 0
it removes the head; with LOST_COUNT above 0 it removes the head and appends a LOST record that carries the count and
the low 16 bits of the current time, and LOST_COUNT becomes 0. R134: a pop that falls after `k` of the pushes of a scan
result or of a due time acts as a pop taken between those pushes and the remaining ones (the pop is an operand of the
command whose pushes it falls between, log 26). -/
def Obligations.PopsRemoveTheHeadAndInsertLost : Prop :=
  (∀ (s : State) (b : Byte), s.WritesAt 0x14#6 →
    (b.getLsbD 0 = false → exec (.pop b) s = .next s.acked)
    ∧ (b.getLsbD 0 = true → s.report.records = [] → exec (.pop b) s = .next s.acked)
    ∧ (b.getLsbD 0 = true → ∀ head rest, s.report.records = head :: rest →
      (s.report.lost = 0 → exec (.pop b) s = .next { s.acked with report := { records := rest, lost := 0 } })
      ∧ (s.report.lost ≠ 0 → exec (.pop b) s = .next { s.acked with report :=
          { records := rest ++ [.lost s.report.lost (s.time.setWidth 16)], lost := 0 } })))
  ∧ ∀ (s : State) (i : Option PopBetween → Instr),
    ((∃ raw, i = fun pop => .scanResult raw pop) ∨ i = fun pop => .dueTimeTaken pop) →
    ∃ (t : State) (offers : List Record), t.report = s.report ∧ exec (i none) s = .next (t.takeOffers offers)
      ∧ ∀ (k : Nat) (b : Byte), ∃ u, exec (.pop b) (t.takeOffers (offers.take k)) = .next u
        ∧ exec (i (some { after := k, byte := b })) s = .next (u.takeOffers (offers.drop k))

/-! ## Output block -/

/-- R119, R123, R126: a pulse end takes a PULSING output whose due time is reached to LOW and changes nothing else; a
byte written to OUT_LEVEL is stored, and sets every enabled HOST-mode output to its bit's level except while a restore
load runs (ENABLE, MODE and OFF are tested together: deduced, log 25). A PULSE_END of an output that has no pulse end
due changes nothing (the model's choice, log 3; a distance of exactly 2^31 counts as not due, log 20). -/
def Obligations.PulseEndsAndHostLevels : Prop :=
  (∀ (s : State) (o : OutIdx) (due : Time), s.outState[o] = .pulsing due →
    ((s.time - due).toNat < 2 ^ 31 → exec (.pulseEnd o) s = .next { s with outState := s.outState.set o .low })
    ∧ (2 ^ 31 ≤ (s.time - due).toNat → exec (.pulseEnd o) s = .next s))
  ∧ (∀ (s : State) (o : OutIdx), (∀ due, s.outState[o] ≠ .pulsing due) → exec (.pulseEnd o) s = .next s)
  ∧ ∀ (s : State) (b : Byte), s.WritesAt 0x16#6 →
    ((∀ x, s.engine.inFlight ≠ some (.restore x)) →
      exec (.outLevelWrite b) s = .next { s.acked with
        outLevel := b.setWidth 6
        outState := Vector.ofFn fun o : OutIdx =>
          if s.outCfg[o].enable = true ∧ s.outCfg[o].mode = .host ∧ s.outState[o] ≠ .off then
            (if b.getLsbD o.val then .high else .low)
          else s.outState[o] })
    ∧ (∀ x, s.engine.inFlight = some (.restore x) →
      exec (.outLevelWrite b) s = .next { s.acked with outLevel := b.setWidth 6 })

/-- R116, R117, R118, R119, R120: a pattern action on an output that is OFF or in HOST mode, or a FOLLOW with no
channel of its set held, changes nothing; otherwise SET, CLEAR, TOGGLE, PULSE and FOLLOW lead to the states of their
tables, where a PULSE whose end has already been reached leaves the output LOW (a distance of exactly 2^31 counts as
not reached, the model's choice, log 20; ENABLE 0 and OFF are tested together, deduced, log 25). -/
def Obligations.ActionsLeadToTheirStates : Prop :=
  ∀ (e : Env) (a : Action) (w : Recog) (c : OutCfg) (o : OutState) (set : ChanSet) (due : Time),
    c = e.outCfg[a.out] → o = w.outs[a.out] → set = a.lastSet &&& w.held →
    due = a.time + BitVec.ofNat 32 (a.pulseLen * 10) →
    ((c.enable = false ∨ o = .off ∨ c.mode = .host ∨ (a.op = .follow ∧ set = 0)) → w.act e a = w)
    ∧ (c.enable = true → o ≠ .off → c.mode = .pattern →
      (a.op = .set → w.act e a = w.setOut a.out .high)
      ∧ (a.op = .clear → w.act e a = w.setOut a.out .low)
      ∧ (a.op = .toggle → w.act e a = w.setOut a.out (if o = .low then .high else .low))
      ∧ (a.op = .pulse → (c.retrigger = .extend ∨ ∀ old, o ≠ .pulsing old) →
          w.act e a = w.setOut a.out (if (e.now - due).toNat < 2 ^ 31 then .low else .pulsing due))
      ∧ (a.op = .pulse → c.retrigger = .keep → (∃ old, o = .pulsing old) → w.act e a = w)
      ∧ (a.op = .follow → set ≠ 0 → w.act e a = w.setOut a.out (.following set)))

/-- R114, R115: the drive of each pin by DRIVE, POLARITY and whether its output is OFF, inactive (LOW) or active, and
the bit of OUT_STATE. -/
def Obligations.PinsFollowTheOutputs : Prop :=
  ∀ (s : State) (o : OutIdx) (c : OutCfg) (x : OutState), c = s.outCfg[o] → x = s.outState[o] →
    (s.pinDrive o = if x = .off then .highZ
      else if c.drive = .openDrain then (if x = .low then .released else .driveLow)
      else if x = .low ↔ c.polarity = .activeHigh then .driveLow else .driveHigh)
    ∧ ((s.readReg 0x17#6).getLsbD o.val = true ↔ x ≠ .off ∧ x ≠ .low)
    ∧ (s.readReg 0x17#6).getLsbD 6 = false ∧ (s.readReg 0x17#6).getLsbD 7 = false

/-! ## Patterns and the step pool -/

/-- R48, R40: BEGIN_PATTERN refuses in order BAD_INDEX, BUILD_OPEN, BAD_STATE and BAD_VALUE; accepted, it makes the
pattern BUILDING with the header, no steps and UNIVERSE {}, and opens the build context. APPEND_STEP refuses in order
NO_BUILD, TOO_MANY_STEPS, POOL_FULL and BAD_VALUE; accepted, it adds the step at the end and takes one slot. -/
def Obligations.BeginAndAppendBuildAPattern : Prop :=
  (∀ s : State, s.Takes →
    (24 ≤ s.engine.arg0.toNat → exec .beginPattern s = .next (s.posted 0x10#8 .badIndex 0))
    ∧ ∀ p : PatIdx, s.engine.arg0 = BitVec.ofNat 8 p.val →
      ((∃ q, s.build = some q ∧ q ≠ p) → exec .beginPattern s = .next (s.posted 0x10#8 .buildOpen 0))
      ∧ ((s.build = none ∨ s.build = some p) →
        (s.patState[p] ≠ .empty → exec .beginPattern s = .next (s.posted 0x10#8 .badState 0))
        ∧ (s.patState[p] = .empty →
          (∀ n, readHeader s.engine.buf = .bad n →
            exec .beginPattern s = .next (s.posted 0x10#8 .badValue (BitVec.ofNat 8 n)))
          ∧ ∀ h, readHeader s.engine.buf = .good h → exec .beginPattern s = .next
            ({ s with patDef := s.patDef.set p { header := h, steps := [], univ := 0 }
                      patState := s.patState.set p .building
                      build := some p }.posted 0x10#8 .ok 0))))
  ∧ ∀ s : State, s.Takes →
    (s.build = none → exec .appendStep s = .next (s.posted 0x11#8 .noBuild 0))
    ∧ ∀ (p : PatIdx) (d : PatDef), s.build = some p → d = s.patDef[p] →
      (8 ≤ d.steps.length → exec .appendStep s = .next (s.posted 0x11#8 .tooManySteps 0))
      ∧ (d.steps.length < 8 → s.poolFree = 0 → exec .appendStep s = .next (s.posted 0x11#8 .poolFull 0))
      ∧ (d.steps.length < 8 → s.poolFree ≠ 0 →
        (∀ n, readStep s.engine.buf d.steps = .bad n →
          exec .appendStep s = .next (s.posted 0x11#8 .badValue (BitVec.ofNat 8 n)))
        ∧ ∀ x, readStep s.engine.buf d.steps = .good x → exec .appendStep s = .next
          ({ s with patDef := s.patDef.set p { d with steps := d.steps ++ [x] }
                    poolFree := s.poolFree - 1 }.posted 0x11#8 .ok 0))

/-- R49, R50, R51, R52: END_PATTERN refuses NO_BUILD, or INVALID_PATTERN with the first check that fails; where every
check passes the pattern takes the union of its steps' sets as UNIVERSE, becomes READY or DISABLED by START_ENABLED,
and the build context closes. ABANDON_PATTERN empties the building pattern and returns its steps. -/
def Obligations.EndAndAbandonCloseTheBuild : Prop :=
  ∀ s : State, s.Takes →
    (s.build = none → exec .endPattern s = .next (s.posted 0x12#8 .noBuild 0)
      ∧ exec .abandonPattern s = .next (s.posted 0x13#8 .noBuild 0))
    ∧ ∀ (p : PatIdx) (d : PatDef), s.build = some p → d = s.patDef[p] →
      (∀ n, EndCheckFails d.header d.steps n → (∀ m, EndCheckFails d.header d.steps m → n ≤ m) →
        exec .endPattern s = .next (s.posted 0x12#8 .invalidPattern (BitVec.ofNat 8 n)))
      ∧ ((∀ n, ¬ EndCheckFails d.header d.steps n) → exec .endPattern s = .next
        ({ s with patDef := s.patDef.set p { d with univ := d.steps.foldl (fun (acc : ChanSet) (x : Step) => acc ||| x.channels) 0 }
                  patState := s.patState.set p (if d.header.startEnabled then .ready else .disabled)
                  build := none }.posted 0x12#8 .ok 0))
      ∧ exec .abandonPattern s = .next
        ({ s with patDef := s.patDef.set p PatDef.empty
                  patState := s.patState.set p .empty
                  poolFree := s.poolFree + d.steps.length
                  build := none }.posted 0x13#8 .ok 0)

/-- R52, R53, R54, R55, R57: REVISE_PATTERN, DELETE_PATTERN, ENABLE_PATTERN, DISABLE_PATTERN (where the pattern is not
ACTIVE) and ARM_PATTERN act by the state of the pattern that ARG0 names, or refuse. -/
def Obligations.PatternCommandsActByState : Prop :=
  ∀ s : State, s.Takes →
    (24 ≤ s.engine.arg0.toNat →
      exec .revisePattern s = .next (s.posted 0x14#8 .badIndex 0)
      ∧ exec .deletePattern s = .next (s.posted 0x15#8 .badIndex 0)
      ∧ exec .enablePattern s = .next (s.posted 0x16#8 .badIndex 0)
      ∧ exec .disablePattern s = .next (s.posted 0x17#8 .badIndex 0)
      ∧ exec .armPattern s = .next (s.posted 0x18#8 .badIndex 0))
    ∧ ∀ (p : PatIdx) (d : PatDef) (st : PatState), s.engine.arg0 = BitVec.ofNat 8 p.val → d = s.patDef[p] →
      st = s.patState[p] →
      (st ≠ .disabled → exec .revisePattern s = .next (s.posted 0x14#8 .badState 0))
      ∧ (st = .disabled →
        (∀ n, readHeader s.engine.buf = .bad n →
          exec .revisePattern s = .next (s.posted 0x14#8 .badValue (BitVec.ofNat 8 n)))
        ∧ ∀ h, readHeader s.engine.buf = .good h → exec .revisePattern s = .next
          (if h.actionOut ≠ none ∧ h.actionOp = .follow ∧ ¬ (∃ x ∈ d.steps.getLast?, x.kind ∈ [Kind.chord, .hold]) then
            s.posted 0x14#8 .invalidPattern 4
          else if h.actionOut ≠ none ∧ h.actionOp = .pulse ∧ h.pulseLen = 0 then s.posted 0x14#8 .invalidPattern 5
          else { s with patDef := s.patDef.set p { d with header := h } }.posted 0x14#8 .ok 0))
      ∧ exec .deletePattern s = .next
        (if st = .disabled then
          { s with patDef := s.patDef.set p PatDef.empty
                   patState := s.patState.set p .empty
                   poolFree := s.poolFree + d.steps.length }.posted 0x15#8 .ok 0
        else s.posted 0x15#8 (if st = .empty then .ok else .badState) 0)
      ∧ exec .enablePattern s = .next
        (if st = .disabled then { s with patState := s.patState.set p .ready }.posted 0x16#8 .ok 0
        else s.posted 0x16#8 (if st = .empty ∨ st = .building then .badState else .ok) 0)
      ∧ (st ≠ .active → exec .disablePattern s = .next
        (if st = .empty ∨ st = .building then s.posted 0x17#8 .badState 0
        else if st = .disabled then s.posted 0x17#8 .ok 0
        else { s with patState := s.patState.set p .disabled }.posted 0x17#8 .ok 0))
      ∧ exec .armPattern s = .next
        (if st = .spent ∨ st = .locked then { s with patState := s.patState.set p .ready }.posted 0x18#8 .ok 0
        else s.posted 0x18#8 .badState 0)

/-- R56, R109: DISABLE_PATTERN of an ACTIVE pattern frees its slot and leaves it DISABLED; it leaves the held set, the
definitions and the other kinds of state alone; it ends the tracker as any cancel does, with reason CANCELLED and the
current time; and where no tracker is PENDING, the one record it offers is that ABORTED record, under REPORT_ABORT. -/
def Obligations.DisableCancelsAnActivePattern : Prop :=
  ∀ (s : State) (p : PatIdx) (t : SlotIdx), s.Takes → s.BindingsOk → s.engine.arg0 = BitVec.ofNat 8 p.val →
    s.trackers[t].pattern = some p →
    ∃ u, exec .disablePattern s = .next u ∧ u.patState[p] = .disabled
      ∧ (∀ v : SlotIdx, u.trackers[v].pattern ≠ some p)
      ∧ u = { s with patState := u.patState, trackers := u.trackers, outState := u.outState,
                     report := u.report, flags := u.flags &&& ~~~0x01#6 }.posted 0x17#8 .ok 0
      ∧ u = (s.work fun e w => endTracker e t .cancelled s.time .disabled w).posted 0x17#8 .ok 0
      ∧ ((∀ (v : SlotIdx) (x : Pending), v ≠ t → s.trackers[v] ≠ .pending x) →
          u = ({ s with patState := s.patState.set p .disabled, trackers := s.trackers.set t .free }.queued
            s.patDef[p].header.reportAbort
            (.aborted p s.patDef[p].header.tag s.trackers[t].step .cancelled (s.time.setWidth 16))).posted 0x17#8 .ok 0)

/-- R97, R108, R135: FLUSH_TRACKERS frees every slot and leaves every pattern that had one READY, with no completion and
no action; with REPORT_ABORT each cancelled tracker's ABORTED record is offered with reason CANCELLED and the current
time, those of the PENDING trackers first and then those of the WAITING ones, each in ascending slot order. CLEAR_QUEUE
empties the queue with no LOST record and changes no flag but CMD_DONE. -/
def Obligations.FlushAndClear : Prop :=
  (∀ (s : State) (cancelled : (Tracker → Bool) → List Record), s.Takes →
    (∀ f, cancelled f = (List.finRange 6).filterMap fun u =>
      if f s.trackers[u] then s.env.abortRecord s.trackers .cancelled s.time u else none) →
    exec .flushTrackers s = .next (({ s with
      trackers := Vector.replicate 6 .free
      patState := Vector.ofFn fun p : PatIdx => if ∃ u : SlotIdx, s.trackers[u].pattern = some p then PatState.ready
        else s.patState[p] }.takeOffers (cancelled Tracker.isPending ++ cancelled Tracker.isWaiting)).posted
      0x20#8 .ok 0))
  ∧ ∀ s : State, s.Takes →
    exec .clearQueue s = .next ({ s with report := { records := [], lost := 0 } }.posted 0x30#8 .ok 0)

/-! ## Matcher -/

/-- R83, R86, R80, R81: an aborting due time that has been passed, where it is the only one and the only tracker in
use, is taken with its reason and its own value: an ABORTED record under REPORT_ABORT, the slot freed, the pattern
READY. R69, R74, R76: a satisfying one (HOLD_END, QUIET_END) that has been reached satisfies its step at its own value:
the tracker stays on a later step, aborts there, or is a candidate, which completes at once. A due time that is not yet
due is not taken (a DUE_TIME_TAKEN with none due changes nothing: the model's choice, log 3; a distance of exactly 2^31
counts as not due, log 20). R83, R85: among several, in any trackers, the one taken is the one before all others: at one value a
satisfying one before an aborting one, at one effective instant priority-then-index order, and in one tracker STEP_DUE
before OVERALL_DUE. (That of due times of different effective instants the earlier is taken first, and that one
DUE_TIME_TAKEN takes one due time, is the model's deduction, log 10: the rules order only those of one instant.) -/
def Obligations.PassedDueTimesAbort : Prop :=
  (∀ (s : State) (t : SlotIdx) (x : Waiting) (d : Time), s.trackers[t] = .waiting x →
    (∀ u : SlotIdx, u ≠ t → s.trackers[u] = .free) →
    (∀ (k : DueKind) (r : Reason), (k = .late ∧ r = .late ∨ k = .split ∧ r = .split ∨ k = .long ∧ r = .long) →
      x.stepDue = some (k, d) → x.overallDue = none →
      (1 ≤ (s.time - d).toNat → (s.time - d).toNat < 2 ^ 31 → exec .dueTimeTaken s = .next
        ({ s with trackers := s.trackers.set t .free, patState := s.patState.set x.pattern .ready }.queued
          s.patDef[x.pattern].header.reportAbort
          (.aborted x.pattern s.patDef[x.pattern].header.tag x.step r (d.setWidth 16))))
      ∧ ((s.time = d ∨ 2 ^ 31 ≤ (s.time - d).toNat) → exec .dueTimeTaken s = .next s))
    ∧ (x.stepDue = none → x.overallDue = some d →
      (1 ≤ (s.time - d).toNat → (s.time - d).toNat < 2 ^ 31 → exec .dueTimeTaken s = .next
        ({ s with trackers := s.trackers.set t .free, patState := s.patState.set x.pattern .ready }.queued
          s.patDef[x.pattern].header.reportAbort
          (.aborted x.pattern s.patDef[x.pattern].header.tag x.step .expired (d.setWidth 16))))
      ∧ ((s.time = d ∨ 2 ^ 31 ≤ (s.time - d).toNat) → exec .dueTimeTaken s = .next s))
    ∧ ∀ k : DueKind, (k = .holdEnd ∨ k = .quietEnd) → x.stepDue = some (k, d) → x.overallDue = none →
      (2 ^ 31 ≤ (s.time - d).toNat → exec .dueTimeTaken s = .next s)
      ∧ ((s.time - d).toNat < 2 ^ 31 →
        (∀ y, advance s.patDef[x.pattern] s.held d x = .stay y →
          exec .dueTimeTaken s = .next { s with trackers := s.trackers.set t (.waiting y) })
        ∧ (∀ y r time, advance s.patDef[x.pattern] s.held d x = .abort y r time → exec .dueTimeTaken s = .next
          ({ s with trackers := s.trackers.set t .free, patState := s.patState.set x.pattern .ready }.queued
            s.patDef[x.pattern].header.reportAbort
            (.aborted x.pattern s.patDef[x.pattern].header.tag y.step r (time.setWidth 16))))
        ∧ ∀ y te, advance s.patDef[x.pattern] s.held d x = .candidate y te → exec .dueTimeTaken s = .next
          ({ s with trackers := s.trackers.set t (.waiting y) }.work fun e w => complete e 6 t te false te w)))
  ∧ ∀ (s : State) (t : SlotIdx) (x : Waiting) (kind : Option DueKind) (d : Time), s.trackers[t] = .waiting x →
    s.DueNow t kind d →
    (∀ (u : SlotIdx) (kind' : Option DueKind) (d' : Time), s.DueNow u kind' d' → (u, kind') ≠ (t, kind) →
      s.DueBefore t kind d u kind' d') →
    (∀ r : Reason, (kind = none ∧ r = .expired ∨ kind = some .late ∧ r = .late ∨ kind = some .split ∧ r = .split
        ∨ kind = some .long ∧ r = .long) →
      exec .dueTimeTaken s = .next (s.work fun e w => endTracker e t r d .ready w))
    ∧ ((kind = some .holdEnd ∨ kind = some .quietEnd) → exec .dueTimeTaken s = .next (s.work fun e w =>
        match advance s.patDef[x.pattern] s.held d x with
        | .stay y => w.setTracker t (.waiting y)
        | .abort y r time => endTracker e t r time .ready (w.setTracker t (.waiting y))
        | .candidate y te => resolve e t te (w.setTracker t (.waiting y))))

/-- R84: stage 1 of an event leaves no WAITING tracker with a due time whose effective instant is before the event's:
no satisfying one at or before its timestamp, no aborting one before it. R87 to R90: the stages of an event follow one
another, each on what the stage before it left: due times, then the held set with the unlocks of a RELEASE, then the
trackers, then the candidates, then the starts. -/
def Obligations.StageOneTakesEveryDueTimeBefore : Prop :=
  (∀ (e : Env) (ev : Event) (w v : Recog) (held : ChanSet) (offered : Recog × List (SlotIdx × Time)),
    v = stage1 e ev { w with ended := 0, claimed := 0 } →
    held = (if ev.press then v.held ||| 1#12 <<< ev.chan.val else v.held &&& ~~~(1#12 <<< ev.chan.val)) →
    offered = stage3 e ev { v with
      held := held
      pstate := Vector.ofFn fun p : PatIdx =>
        if ev.press = false ∧ v.pstate[p] = .locked ∧ e.defs[p].univ &&& held = 0 then PatState.ready
        else v.pstate[p] } →
    matchEvent e ev w = stage5 e ev (stage4 e offered.2 offered.1))
  ∧ ∀ (e : Env) (ev : Event) (w : Recog) (t : SlotIdx) (x : Waiting), (stage1 e ev w).trackers[t] = .waiting x →
    (∀ (k : DueKind) (d : Time), x.stepDue = some (k, d) →
      if k = .holdEnd ∨ k = .quietEnd then ¬ ((ev.time - d).toNat < 2 ^ 31)
      else ¬ (1 ≤ (ev.time - d).toNat ∧ (ev.time - d).toNat < 2 ^ 31))
    ∧ ∀ d : Time, x.overallDue = some d → ¬ (1 ≤ (ev.time - d).toNat ∧ (ev.time - d).toNat < 2 ^ 31)

/-- R80, R99, R100, R101: a cascade ends within six completions: allowing a deeper one changes nothing. Where one PENDING tracker
has the ended pattern as its last blocker and no other has it among its own, that one completes, deferred, with its own
completion time and with the time of the ending as its action time. Where an ending releases any number of PENDING
trackers, they complete so in priority-then-index order of their patterns, each whole before the next, and one that an
earlier completion ended is passed over. -/
def Obligations.CascadesEndWithinSixCompletions : Prop :=
  (∀ (e : Env) (n : Nat) (t : SlotIdx) (te : Time) (deferred : Bool) (time : Time) (w : Recog), 6 ≤ n →
    complete e n t te deferred time w = complete e 6 t te deferred time w)
  ∧ (∀ (e : Env) (t : SlotIdx) (reason : Reason) (time : Time) (st : PatState) (w : Recog) (p : PatIdx)
    (order : List SlotIdx), w.trackers[t].pattern = some p →
    e.Releases w.trackers (fun u => u == t) (1#24 <<< p.val) order →
    endTracker e t reason time st w = takeTurns e time order { w with
      offers := w.offers ++ (e.abortRecord w.trackers reason time t).toList
      trackers := slotsAfter w.trackers (fun u => u == t) (1#24 <<< p.val)
      pstate := w.pstate.set p st
      ended := w.ended ||| 1#24 <<< p.val })
  ∧ ∀ (e : Env) (t u : SlotIdx) (reason : Reason) (time : Time) (st : PatState) (w : Recog) (p : PatIdx) (x : Pending),
    w.trackers[t].pattern = some p → u ≠ t → w.trackers[u] = .pending x → x.blockers = 1#24 <<< p.val →
    (∀ (v : SlotIdx) (y : Pending), v ≠ t → v ≠ u → w.trackers[v] = .pending y → hasPat y.blockers p = false) →
    endTracker e t reason time st w = complete e 6 u x.endTime true time
      { (if e.defs[p].header.reportAbort = true then
          w.offer (.aborted p e.defs[p].header.tag w.trackers[t].step reason (time.setWidth 16)) else w) with
        trackers := (w.trackers.set t .free).set u (.pending { x with blockers := 0 })
        pstate := w.pstate.set p st
        ended := w.ended ||| 1#24 <<< p.val }

/-- R92: a pattern stands in the blocker set exactly when a tracker is bound to it, its PRIORITY is strictly greater,
and its UNIVERSE overlaps. R105: the victim is a WAITING tracker of strictly lower PRIORITY; of those, one of the
lowest; of those, one with the latest START_TIME; of those, the one of highest index (START_TIMEs within 2^31 ms of one
another); and there is none exactly when no tracker qualifies. -/
def Obligations.BlockersAndVictims : Prop :=
  (∀ (e : Env) (p q : PatIdx) (trackers : Vector Tracker 6), hasPat (blockersOf e p trackers) q = true ↔
    e.defs[p].header.priority < e.defs[q].header.priority ∧ e.defs[q].univ &&& e.defs[p].univ ≠ 0
      ∧ ∃ t : SlotIdx, trackers[t].pattern = some q)
  ∧ ∀ (e : Env) (pr : Fin 8) (trackers : Vector Tracker 6) (origin : Time),
    (∀ (t : SlotIdx) (x : Waiting), trackers[t] = .waiting x → (x.startTime - origin).toNat < 2 ^ 31) →
    (victim e pr trackers = none ↔
      ∀ (t : SlotIdx) (x : Waiting), trackers[t] = .waiting x → ¬ e.defs[x.pattern].header.priority < pr)
    ∧ ∀ v : SlotIdx, victim e pr trackers = some v → ∃ x : Waiting, trackers[v] = .waiting x
      ∧ e.defs[x.pattern].header.priority < pr
      ∧ ∀ (t : SlotIdx) (y : Waiting), trackers[t] = .waiting y → e.defs[y.pattern].header.priority < pr →
        e.defs[x.pattern].header.priority < e.defs[y.pattern].header.priority
        ∨ e.defs[x.pattern].header.priority = e.defs[y.pattern].header.priority
          ∧ ((y.startTime - origin).toNat < (x.startTime - origin).toNat
            ∨ y.startTime = x.startTime ∧ y.pattern ≤ x.pattern)

/-- R70, R72, R73, R78: what a natural event makes of a tracker whose current step is a CHORD or a TAP. (That a press
of a channel already collected is an unexpected one is deduced, log 19; the judged and earliest times at a distance of
exactly 2^31 are the model's choice, log 20.) -/
def Obligations.ChordAndTapStepsTakeEvents : Prop :=
  ∀ (d : PatDef) (held : ChanSet) (ev : Event) (w : Waiting) (x : Step) (j early : Time),
    d.steps[w.step]? = some x → ev.cause = .natural →
    j = (if 1 ≤ (w.stepStart - ev.time).toNat ∧ (w.stepStart - ev.time).toNat < 2 ^ 31 then w.stepStart else ev.time) →
    early = w.stepStart + BitVec.ofNat 32 (x.earliest * 10) →
    (x.kind = .chord →
      (ev.press = true → hasChan x.channels ev.chan = true → hasChan w.collected ev.chan = false →
        offerEvent d held ev w =
          if 1 ≤ (early - j).toNat ∧ (early - j).toNat < 2 ^ 31 then .abort w .early j
          else
            let w' := if w.collected = 0 then
                { w with collected := 1#12 <<< ev.chan.val, chordStart := some j,
                         stepDue := some (.split, j + BitVec.ofNat 32 (x.span * 10)) }
              else { w with collected := w.collected ||| 1#12 <<< ev.chan.val }
            if w'.collected = x.channels then advance d held j w' else .stay w')
      ∧ (ev.press = true → (hasChan x.channels ev.chan = false ∨ hasChan w.collected ev.chan = true) →
        offerEvent d held ev w = if d.header.strict then .abort w .foreign j else .stay w)
      ∧ (ev.press = false →
        offerEvent d held ev w = if hasChan w.collected ev.chan then .abort w .broken j else .stay w))
    ∧ (x.kind = .tap →
      (ev.press = true → hasChan x.channels ev.chan = true → w.tapPress = none →
        offerEvent d held ev w =
          if 1 ≤ (early - j).toNat ∧ (early - j).toNat < 2 ^ 31 then .abort w .early j
          else .stay { w with tapPress := some j,
                              stepDue := some (.long, j + BitVec.ofNat 32 (x.span * 10)) })
      ∧ (ev.press = true → (hasChan x.channels ev.chan = false ∨ w.tapPress ≠ none) →
        offerEvent d held ev w = if d.header.strict then .abort w .foreign j else .stay w)
      ∧ (ev.press = false → offerEvent d held ev w =
          if hasChan x.channels ev.chan = true ∧ w.tapPress ≠ none then advance d held j w else .stay w))

/-- R74, R75, R76, R78, R79: what a natural event makes of a tracker whose current step is a HOLD, a LIFT or a QUIET;
and a synthetic release, which satisfies no step, aborts with CHANNEL_LOST on a channel of the UNIVERSE and otherwise
does nothing. (The judged and earliest times at a distance of exactly 2^31 are the model's choice, log 20.) R88: an event
is offered to each WAITING tracker in ascending slot order, each as the trackers before it left the matcher: it stays
with what the event made of it, it becomes a candidate, or it aborts, with the endings that this sets off; where none
aborts, every WAITING tracker becomes what the event makes of it, and the candidates are listed. R89: the candidates that
are still bound are resolved in priority-then-index order, each whole before the next. -/
def Obligations.HoldLiftAndQuietStepsTakeEvents : Prop :=
  (∀ (e : Env) (ev : Event) (w : Recog), stage3 e ev w =
    (List.finRange 6).foldl (fun (a : Recog × List (SlotIdx × Time)) t => match a.1.trackers[t] with
      | .waiting x => (match offerEvent e.defs[x.pattern] a.1.held ev x with
        | .stay y => ({ a.1 with trackers := a.1.trackers.set t (.waiting y) }, a.2)
        | .candidate y te => ({ a.1 with trackers := a.1.trackers.set t (.waiting y) }, a.2 ++ [(t, te)])
        | .abort y reason time =>
          (endTracker e t reason time .ready { a.1 with trackers := a.1.trackers.set t (.waiting y) }, a.2))
      | .free | .pending _ => a) (w, []))
  ∧ (∀ (e : Env) (ev : Event) (w : Recog),
    (∀ (t : SlotIdx) (x y : Waiting) (reason : Reason) (time : Time), w.trackers[t] = .waiting x →
      offerEvent e.defs[x.pattern] w.held ev x ≠ .abort y reason time) →
    stage3 e ev w = ({ w with trackers := Vector.ofFn fun t : SlotIdx => match w.trackers[t] with
        | .waiting x => (match offerEvent e.defs[x.pattern] w.held ev x with
          | .stay y | .candidate y _ | .abort y _ _ => Tracker.waiting y)
        | .pending x => .pending x
        | .free => .free },
      (List.finRange 6).filterMap fun t => match w.trackers[t] with
        | .waiting x => (match offerEvent e.defs[x.pattern] w.held ev x with
          | .candidate _ te => some (t, te)
          | .stay _ | .abort _ _ _ => none)
        | .free | .pending _ => none))
  ∧ (∀ (e : Env) (w : Recog) (cands order : List (SlotIdx × Time)), (cands.map Prod.fst).Nodup →
    order.Perm (cands.filter fun c => w.trackers[c.1].pattern.isSome) →
    order.Pairwise (fun c d => e.SlotBefore w.trackers c.1 d.1) →
    stage4 e cands w = order.foldl (fun v c => resolve e c.1 c.2 v) w)
  ∧ ∀ (d : PatDef) (held : ChanSet) (ev : Event) (w : Waiting) (x : Step) (j early : Time),
    d.steps[w.step]? = some x →
    j = (if 1 ≤ (w.stepStart - ev.time).toNat ∧ (w.stepStart - ev.time).toNat < 2 ^ 31 then w.stepStart else ev.time) →
    early = w.stepStart + BitVec.ofNat 32 (x.earliest * 10) →
    (ev.cause ≠ .natural →
      offerEvent d held ev w = if hasChan d.univ ev.chan then .abort w .channelLost j else .stay w)
    ∧ (ev.cause = .natural →
      ((x.kind = .hold ∨ x.kind = .lift) → ev.press = true →
        offerEvent d held ev w = if d.header.strict then .abort w .foreign j else .stay w)
      ∧ (x.kind = .hold → ev.press = false →
        offerEvent d held ev w = if hasChan x.channels ev.chan then .abort w .holdLost j else .stay w)
      ∧ (x.kind = .lift → ev.press = false →
        offerEvent d held ev w =
          if hasChan x.channels ev.chan = true ∧ x.channels &&& held = 0 then
            (if 1 ≤ (early - j).toNat ∧ (early - j).toNat < 2 ^ 31 then .abort w .early j else advance d held j w)
          else .stay w)
      ∧ (x.kind = .quiet → ev.press = false → offerEvent d held ev w = .stay w)
      ∧ (x.kind = .quiet → ev.press = true →
        offerEvent d held ev w =
          if hasChan (if x.channels = 0 then d.univ else x.channels) ev.chan then .abort w .interrupted j
          else if d.header.strict then .abort w .foreign j else .stay w))

/-- R68, R69, R71, R73 to R76: where a step that is not the last is satisfied at `t`, the next step becomes current at
`t` with its initial view of the held set; where the last is satisfied, the tracker is a candidate at `t`. -/
def Obligations.SatisfiedStepsGiveWay : Prop :=
  ∀ (d : PatDef) (held : ChanSet) (t : Time) (w : Waiting),
    (d.steps.length ≤ w.step + 1 → advance d held t w = .candidate w t)
    ∧ ∀ (x : Step) (n : Waiting) (late span : Time), d.steps[w.step + 1]? = some x →
      n = { w with step := w.step + 1, stepStart := t, collected := 0, chordStart := none, tapPress := none,
                   stepDue := none } →
      late = t + BitVec.ofNat 32 (x.latest * 10) → span = t + BitVec.ofNat 32 (x.span * 10) →
      (x.kind = .chord → x.channels &&& held = 0 → x.channels ≠ 0 →
        advance d held t w = .stay { n with stepDue := some (.late, late) })
      ∧ (x.kind = .chord → x.channels &&& held ≠ 0 → x.channels &&& held ≠ x.channels →
        advance d held t w = .stay { n with collected := x.channels &&& held, chordStart := some t,
                                            stepDue := some (.split, span) })
      ∧ (x.kind = .tap → advance d held t w = .stay { n with stepDue := some (.late, late) })
      ∧ (x.kind = .hold → advance d held t w =
          if x.channels &&& held = x.channels then .stay { n with stepDue := some (.holdEnd, span) }
          else .abort n .holdLost t)
      ∧ (x.kind = .lift → x.channels &&& held ≠ 0 → advance d held t w = .stay { n with stepDue := some (.late, late) })
      ∧ (x.kind = .quiet → advance d held t w = .stay { n with stepDue := some (.quietEnd, span) })
      ∧ ((x.kind = .chord ∧ x.channels &&& held = x.channels ∨ x.kind = .lift ∧ x.channels &&& held = 0) →
        ∃ n', n' = (if x.kind = .chord then { n with collected := x.channels } else n)
          ∧ advance d held t w = if x.earliest = 0 then advance d held t n' else .abort n' .early t)

/-- R66, R67, R62, R71, R73: a confirmed press starts the READY pattern whose first step holds its channel, where no
tracker is in use and no other pattern is READY: the pattern is ACTIVE in slot 0, with its overall due time by WINDOW,
and step 0 has taken the press, as a TAP or as a CHORD. A CHORD that is complete at once is satisfied at the press: the
tracker stays on a later step, aborts there, or is a candidate, which completes at once. R66, R90: stage 5 gives the
patterns their turns in priority-then-index order, each judged as the turns before it left the matcher; a pattern takes
a start where it is READY, its first step holds the channel, none of its trackers ended in the event (condition 3), and
it overlaps no claim of the event (condition 4). R64, R105 to R107: with every slot in use and no victim, a start is
refused with a REFUSED record under REPORT_ABORT and TRACKER_FULL; with a victim, the victim is cancelled with EVICTED
and the start takes its slot (here with no tracker PENDING and no claim in the event). -/
def Obligations.PressesStartReadyPatterns : Prop :=
  (∀ (s : State) (t : Time) (list : List Chan) (c : Chan) (rest : List Chan) (raw : Fin 4096) (l l' : ChanLive)
    (cfg : ChanCfg) (p : PatIdx) (x : Step) (more : List Step) (held : ChanSet) (w : Waiting),
    s.Delivers t list c rest → s.NoTracker → l = s.chanLive[c] → cfg = s.chanCfg[c] → (l.counted raw).satCount < 3 →
    (l.state = .idle ∧ cfg.pressDb ≤ 1 ∨ l.state = .arming ∧ cfg.pressDb ≤ l.debounce + 1) →
    cfg.touch ≤ (raw.val : Int) - l.baseline →
    s.patState[p] = .ready → (∀ q : PatIdx, q ≠ p → s.patState[q] ≠ .ready) →
    s.patDef[p].steps = x :: more → hasChan x.channels c = true →
    l' = { l.counted raw with state := .pressed, pressTime := t, debounce := 0 } →
    held = s.held ||| 1#12 <<< c.val →
    w = { pattern := p, step := 0, startTime := t, stepStart := t, collected := 0, chordStart := none, tapPress := none,
          stepDue := none, overallDue := if s.patDef[p].header.window = 0 then none
            else some (t + BitVec.ofNat 32 (s.patDef[p].header.window * 100)) } →
    (x.kind = .tap → exec (.scanResult raw) s = .next
      { (s.delivered list c rest l').queued cfg.report (.channel c .press (t.setWidth 16) 0) with
        held := held, patState := s.patState.set p .active
        trackers := s.trackers.set (0 : SlotIdx) (.waiting
          { w with tapPress := some t, stepDue := some (.long, t + BitVec.ofNat 32 (x.span * 10)) }) })
    ∧ (x.kind = .chord → x.channels &&& held ≠ x.channels → exec (.scanResult raw) s = .next
      { (s.delivered list c rest l').queued cfg.report (.channel c .press (t.setWidth 16) 0) with
        held := held, patState := s.patState.set p .active
        trackers := s.trackers.set (0 : SlotIdx) (.waiting
          { w with collected := x.channels &&& held, chordStart := some t
                   stepDue := some (.split, t + BitVec.ofNat 32 (x.span * 10)) }) })
    ∧ (x.kind = .chord → x.channels &&& held = x.channels → ∀ (u : State) (r : Progress),
        u = { (s.delivered list c rest l').queued cfg.report (.channel c .press (t.setWidth 16) 0) with held := held } →
        r = advance s.patDef[p] held t { w with collected := x.channels, chordStart := some t } →
        (∀ y, r = .stay y → exec (.scanResult raw) s = .next { u with
          patState := s.patState.set p .active, trackers := s.trackers.set (0 : SlotIdx) (.waiting y) })
        ∧ (∀ y reason time, r = .abort y reason time → exec (.scanResult raw) s = .next
          (u.queued s.patDef[p].header.reportAbort
            (.aborted p s.patDef[p].header.tag y.step reason (time.setWidth 16))))
        ∧ ∀ y te, r = .candidate y te → exec (.scanResult raw) s = .next
          ({ u with patState := s.patState.set p .active
                    trackers := s.trackers.set (0 : SlotIdx) (.waiting y) }.work fun e v =>
            complete e 6 0 te false te v)))
  ∧ (∀ (e : Env) (ev : Event) (w : Recog) (order : List PatIdx), ev.press = true → (∀ p, p ∈ order) →
    order.Pairwise e.RanksBefore →
    stage5 e ev w = order.foldl (fun v p =>
      if v.pstate[p] = .ready ∧ (∃ x ∈ e.defs[p].steps.head?, hasChan x.channels ev.chan = true)
        ∧ hasPat v.ended p = false ∧ e.defs[p].univ &&& v.claimed = 0
      then takeStart e p ev.time v else v) w)
  ∧ ∀ (e : Env) (p : PatIdx) (time : Time) (w : Recog), (∀ u : SlotIdx, w.trackers[u] ≠ .free) →
    (victim e e.defs[p].header.priority w.trackers = none →
      ∀ r : Recog, r = (if e.defs[p].header.reportAbort = true then
          w.offer (.refused p e.defs[p].header.tag (time.setWidth 16)) else w) →
        takeStart e p time w = { r with flags := r.flags ||| 0x08#6 })
    ∧ ∀ (v : SlotIdx) (q : PatIdx), victim e e.defs[p].header.priority w.trackers = some v →
      w.trackers[v].pattern = some q → (∀ (u : SlotIdx) (y : Pending), w.trackers[u] ≠ .pending y) →
      e.defs[p].univ &&& w.claimed = 0 →
      takeStart e p time w = startIn e p time v
        { (if e.defs[q].header.reportAbort = true then
            w.offer (.aborted q e.defs[q].header.tag w.trackers[v].step .evicted (time.setWidth 16)) else w) with
          trackers := w.trackers.set v .free, pstate := w.pstate.set q .ready, ended := w.ended ||| 1#24 <<< q.val }

/-- R92, R93: a candidate completes at once, or waits PENDING behind its blockers where DEFER is set and it has any.
R94, R95, R97, R98, R99, R102: a completion offers its RECOGNIZED record under REPORT_DONE, performs its action, frees
its slot and rearms its pattern; with CLAIM it then cancels as one group every other tracker whose UNIVERSE overlaps its
own, each with its ABORTED record of reason SUPERSEDED under REPORT_ABORT, in ascending slot order; its pattern, with
those of the group, leaves every BLOCKERS set, and the PENDING trackers that this releases complete in
priority-then-index order. (No other slot is bound to the same pattern.) ACTION_SKIPPED tests ENABLE 0 and OFF together
(deduced, log 25). -/
def Obligations.CompletionsRecordActAndRearm : Prop :=
  (∀ (e : Env) (t : SlotIdx) (te : Time) (w : Recog) (x : Waiting) (b : PatSet), w.trackers[t] = .waiting x →
    b = blockersOf e x.pattern w.trackers →
    resolve e t te w = if e.defs[x.pattern].header.defer = true ∧ b ≠ 0 then
        { w with trackers := w.trackers.set t (.pending
          { pattern := x.pattern, step := x.step, startTime := x.startTime, stepStart := x.stepStart, endTime := te,
            blockers := b }) }
      else complete e 6 t te false te w)
  ∧ ∀ (e : Env) (t : SlotIdx) (te time : Time) (deferred : Bool) (w r a : Recog) (p : PatIdx) (h : PatHeader)
    (last : ChanSet) (st : PatState) (group : SlotIdx → Bool) (gone : PatSet) (order : List SlotIdx),
    w.trackers[t].pattern = some p → h = e.defs[p].header →
    (∀ u : SlotIdx, u ≠ t → w.trackers[u].pattern ≠ some p) →
    last = (match e.defs[p].steps.getLast? with
      | none => 0
      | some x => x.channels) →
    r = (if h.reportDone = true then
        w.offer (.recognized p h.tag (w.trackers[t].startTime.setWidth 16) (te.setWidth 16) deferred
          (match h.actionOut with
            | none => false
            | some o => decide (e.outCfg[o].enable = false ∨ w.outs[o] = .off ∨ e.outCfg[o].mode = .host
                ∨ h.actionOp = .follow ∧ last &&& w.held = 0)))
      else w) →
    a = (match h.actionOut with
      | none => r
      | some o => r.act e { out := o, op := h.actionOp, pulseLen := h.pulseLen, lastSet := last, time := time }) →
    st = (match h.rearm with
      | .once => .spent
      | .again => .ready
      | .afterRelease => if e.defs[p].univ &&& w.held = 0 then .ready else .locked) →
    (∀ u, group u = true ↔ h.claim = true ∧ u ≠ t
      ∧ ∃ q ∈ w.trackers[u].pattern, e.defs[q].univ &&& e.defs[p].univ ≠ 0) →
    (∀ q : PatIdx, hasPat gone q = true ↔ q = p ∨ ∃ u, group u = true ∧ w.trackers[u].pattern = some q) →
    e.Releases w.trackers (fun u => u == t || group u) gone order →
    complete e 6 t te deferred time w = takeTurns e time order { a with
      offers := a.offers ++ (List.finRange 6).filterMap fun u =>
        if group u then e.abortRecord w.trackers .superseded time u else none
      trackers := slotsAfter w.trackers (fun u => u == t || group u) gone
      pstate := Vector.ofFn fun q : PatIdx => if q = p then st
        else if ∃ u, group u = true ∧ w.trackers[u].pattern = some q then PatState.ready else w.pstate[q]
      claimed := if h.claim = true then w.claimed ||| e.defs[p].univ else w.claimed
      ended := w.ended ||| gone }

/-! ## Resets, loads and the configuration store -/

/-- R167, R169, R174, R180, R141: power-on, loss of power, RST_N driven low and an accepted REINIT abandon all work in
flight with no record: the part goes to its load, or to wait for RST_N or for the supply, with ATN_N released and every
pin high-impedance. A bank whose erase is cut off is BLANK if the erase had finished and DAMAGED if not; nothing else
of the store is written. What the volatile registers hold until the load has ended is the model's choice (log 17). That
POWER_ON and LOSS_OF_POWER may come in any mode and leave RST_N at its level is deduced (log 18), and so is the operand
that says whether an erase cut off had finished (log 14). The rise of RST_N begins the load of a part that it held,
with its cause. -/
def Obligations.ResetsAbandonTheWorkInFlight : Prop :=
  (∀ (s : State) (done : Bool) (i : Instr) (m : Mode) (low : Bool),
    (i = .powerOn done ∧ m = (if s.rstLow then .held true else .loading .powerOn) ∧ low = s.rstLow
      ∨ i = .lossOfPower done ∧ m = .unpowered ∧ low = s.rstLow
      ∨ i = .rstNAssert done ∧ (s.mode = .running ∨ ∃ x, s.mode = .loading x) ∧ m = .held false ∧ low = true
      ∨ i = .reinit ∧ s.Takes ∧ m = .loading .reinit ∧ low = s.rstLow) →
    ∃ t, exec i s = .next t ∧ t.atnAsserted = false ∧ (∀ o : OutIdx, t.pinDrive o = .highZ)
      ∧ t.engine.inFlight = none ∧ t.scanner.scan = none ∧ (∀ u : SlotIdx, t.trackers[u] = .free)
      ∧ t.report.records = [] ∧ t.port.waiting = none ∧ t.port.snapshot = none
      ∧ (∀ (k : BankId) (erasing : Prop), (erasing ↔ (∃ g x, s.engine.inFlight = some (.commit .erase k g x))
          ∨ ∃ f, s.engine.inFlight = some (.erase k f)) →
        (erasing → (t.store.nv.get k).judge = if done then .blank else .damaged)
        ∧ (¬ erasing → t.store.nv.get k = s.store.nv.get k))
      ∧ t = { s with mode := m, rstLow := low, time := t.time, scanner := t.scanner, chanLive := t.chanLive
                     patDef := t.patDef, patState := t.patState, poolFree := t.poolFree, build := t.build
                     held := t.held, trackers := t.trackers, outState := t.outState, report := t.report
                     engine := t.engine, port := { t.port with inUse := s.port.inUse, strap := s.port.strap }
                     store := { s.store with nv := t.store.nv } })
  ∧ (∀ (s : State) (done : Bool), (s.mode = .unpowered ∨ ∃ x, s.mode = .held x) →
    exec (.rstNAssert done) s = .next { s with rstLow := true })
  ∧ ∀ s : State,
    (∀ waits, s.mode = .held waits →
      exec .rstNRelease s = .next { s with rstLow := false, mode := .loading (if waits then .powerOn else .pin) })
    ∧ ((∀ waits, s.mode ≠ .held waits) → exec .rstNRelease s = .next { s with rstLow := false })

/-- R168, R36, R60, R91, R125, R136, R141, R143, R160, R10: the end of a start-up load examines the banks, chooses the
current one, applies its image or the factory image, gives every block its reset state from it, sets STORE_FAULT where
a bank was found DAMAGED, and starts the scanner at time 0 where the image asks for it. Of a new part (both banks
BLANK) with ADSEL high, power-on and its load end in the reset state of the model (log 1). -/
def Obligations.StartUpLoadsApplyTheCurrentImage : Prop :=
  (∀ (s : State) (cause : ResetCause) (low : Bool) (st : Store) (image : Image) (live : Vector ChanLive 12),
    s.mode = .loading cause →
    st = { s.store with
      record := { a := s.store.nv.a.examine, b := s.store.nv.b.examine }
      damagedAtStart := { a := decide (s.store.nv.a.judge = .damaged), b := decide (s.store.nv.b.judge = .damaged) }
      source := match ({ s.store with record := { a := s.store.nv.a.examine, b := s.store.nv.b.examine } }
          : Store).current with
        | none => .factory
        | some i => .bank i } →
    image = (match st.source with
      | .factory => factoryImage
      | .bank .a => s.store.nv.a.body
      | .bank .b => s.store.nv.b.body) →
    live = (Vector.ofFn fun c : Chan => ChanLive.zero (if image.chans[c].enable = false then ChanState.off
      else if image.globals.scanAtStart then ChanState.settling else ChanState.suspended)) →
    exec (.startUpLoadEnd low) s = .next
      { pending := s.pending, mode := .running, rstLow := s.rstLow, resetCause := cause, time := 0
        scanner := if image.globals.scanAtStart then
            { running := true, lastScan := some 0, nextScan := some (BitVec.ofNat 32 image.globals.scanPeriod)
              scan := scanOf (measuredIn live) }
          else { running := false, lastScan := none, nextScan := none, scan := none }
        globals := image.globals, chanCfg := image.chans, chanLive := live
        patDef := Vector.ofFn fun p : PatIdx => match image.pats[p] with
          | none => PatDef.empty
          | some q => { header := q.header, steps := q.steps
                        univ := q.steps.foldl (fun (acc : ChanSet) (x : Step) => acc ||| x.channels) 0 }
        patState := Vector.ofFn fun p : PatIdx => match image.pats[p] with
          | none => PatState.empty
          | some q => if q.enabled then PatState.ready else PatState.disabled
        poolFree := 96 - image.stepTotal
        build := none, held := 0, trackers := Vector.replicate 6 .free, outCfg := image.outs
        outState := Vector.ofFn fun o : OutIdx => if image.outs[o].enable = false then OutState.off
          else if image.outs[o].initialHigh then OutState.high else OutState.low
        outLevel := 0, report := { records := [], lost := 0 }
        flags := if s.store.nv.a.judge = .damaged ∨ s.store.nv.b.judge = .damaged then 0x20#6 else 0
        attnMask := image.attnMask
        engine := { cmd := 0, status := .idle, result := .ok, detail := 0, arg0 := 0, arg1 := 0, arg2 := 0
                    buf := Vector.replicate 16 0, inFlight := none }
        port := { s.port with inUse := if low then 0x3A#7 else image.globals.address, strap := low, waiting := none
                              pointer := 0, bus := .idle, snapshot := none }
        store := st })
  ∧ ∀ (s : State) (done : Bool), s.rstLow = false → s.engine.inFlight = none →
    s.store.nv = { a := NvBank.blank, b := NvBank.blank } →
    execAll [.powerOn done, .startUpLoadEnd false] s = .next
      { State.reset with pending := s.pending
                         port := { State.reset.port with ack := s.port.ack, sent := s.port.sent } }

/-- R163, R170, R171, R172: the current bank is the VALID one, or the newer of two VALID ones by the half-range
comparison, A where neither is newer. COMMIT is refused with BUILD_OPEN while a build context is open; otherwise it
targets the bank that is not current with the current generation plus one, or A with 1 where none is current, fixes the
commit image, and retires the target. -/
def Obligations.CommitsTakeTheBankNotCurrent : Prop :=
  (∀ (st : Store) (a b : BankRec), a = st.record.a → b = st.record.b →
    (a.state = .valid → b.state ≠ .valid → st.current = some .a)
    ∧ (a.state ≠ .valid → b.state = .valid → st.current = some .b)
    ∧ (a.state ≠ .valid → b.state ≠ .valid → st.current = none)
    ∧ (a.state = .valid → b.state = .valid → st.current =
        if 1 ≤ (b.generation - a.generation).toNat ∧ (b.generation - a.generation).toNat ≤ 32767 then some .b
        else some .a))
  ∧ ∀ s : State, s.Takes →
    (∀ p, s.build = some p → exec .commit s = .next (s.posted 0x40#8 .buildOpen 0))
    ∧ (s.build = none → ∀ (t : BankId) (g : BitVec 16) (image : Image),
      (s.store.current = some .a → t = .b ∧ g = s.store.record.a.generation + 1) →
      (s.store.current = some .b → t = .a ∧ g = s.store.record.b.generation + 1) →
      (s.store.current = none → t = .a ∧ g = 1) →
      image = { globals := s.globals, attnMask := s.attnMask, chans := s.chanCfg, outs := s.outCfg
                pats := Vector.ofFn fun p : PatIdx => if s.patState[p] = PatState.empty then none
                  else some { header := s.patDef[p].header
                              enabled := decide (s.patState[p] ∈ [PatState.ready, .active, .spent, .locked])
                              steps := s.patDef[p].steps } } →
      ∃ n : NvBank, n.judge = .damaged ∧ exec .commit s = .next
        ({ s with store := { s.store with
            nv := s.store.nv.put t n
            record := s.store.record.put t { state := .damaged, generation := 0 } } }.accepted 0x40#8
          (.commit .erase t g image)))

/-- R172, R173: the ends of the phases of a commit in flight change the target, its record and the phase, and nothing
else, until the commit ends: with OK, the target VALID with its generation; or, where something does not read back as
written, with STORE_FAULT and STORE_FAILED, the target DAMAGED. (That the bank itself is DAMAGED then, and that a seal
end with the read-back equal implies the written word, is deduced, log 15.) A phase end that is not the one due changes
nothing (the model's choice, log 3). -/
def Obligations.CommitPhasesEndInOrder : Prop :=
  ∀ (s : State) (ph : CommitPhase) (t : BankId) (g : BitVec 16) (i : Image) (failed : State → Prop),
    s.engine.inFlight = some (.commit ph t g i) →
    (∀ u, failed u ↔ ∃ n : NvBank, n.judge = .damaged ∧ u = { s with
      store := { s.store with
        nv := s.store.nv.put t n
        record := s.store.record.put t { state := .damaged, generation := 0 } }
      engine := { s.engine with status := .error, result := .storeFailed, detail := 0, inFlight := none }
      flags := s.flags ||| 0x21#6 }) →
    (if ph = .erase then ∃ n : NvBank, n.judge = .damaged ∧ exec .commitEraseEnd s = .next { s with
        engine := { s.engine with inFlight := some (.commit .program t g i) }
        store := { s.store with
          nv := s.store.nv.put t n, record := s.store.record.put t { state := .blank, generation := 0 } } }
      else exec .commitEraseEnd s = .next s)
    ∧ (exec .commitProgramEnd s = .next (if ph = .program then { s with
        engine := { s.engine with inFlight := some (.commit .verify t g i) }
        store := { s.store with
          nv := s.store.nv.put t { erased := false, formatOk := true, generation := g, checkOk := false, body := i }
          record := s.store.record.put t { state := .damaged, generation := 0 } } } else s))
    ∧ (exec (.commitVerifyEnd true) s = .next (if ph = .verify then { s with
        engine := { s.engine with inFlight := some (.commit (.seal false) t g i) } } else s))
    ∧ (if ph = .verify then ∃ u, exec (.commitVerifyEnd false) s = .next u ∧ failed u
      else exec (.commitVerifyEnd false) s = .next s)
    ∧ (exec .checkValueWordWritten s = .next (if ph = .seal false then { s with
        engine := { s.engine with inFlight := some (.commit (.seal true) t g i) }
        store := { s.store with
          nv := s.store.nv.put t { erased := false, formatOk := true, generation := g, checkOk := true, body := i } } }
        else s))
    ∧ (exec (.commitSealEnd true) s = .next (if ph ∈ [.seal false, .seal true] then { s with
        engine := { s.engine with status := .done, result := .ok, detail := 0, inFlight := none }
        flags := s.flags ||| 0x01#6
        store := { s.store with
          nv := s.store.nv.put t { erased := false, formatOk := true, generation := g, checkOk := true, body := i }
          record := s.store.record.put t { state := .valid, generation := g } } } else s))
    ∧ (if ph ∈ [.seal false, .seal true] then ∃ u, exec (.commitSealEnd false) s = .next u ∧ failed u
      else exec (.commitSealEnd false) s = .next s)

/-- R174, R168: whenever a commit is cut off by loss of power or by RST_N, the part that comes up next runs a complete
configuration: the new image, with the target current, once the check value word is fully written; before that the
image of the bank that was current at the take, or the factory image where there was none, with STORE_FAULT and the
target's damaged-at-start flag set unless the cut left it BLANK. (Which of the two a cut erase leaves is an operand,
log 14; what the target of each phase would be found as is deduced, log 15.) -/
def Obligations.InterruptedCommitsKeepAnImage : Prop :=
  ∀ (s u : State) (ph : CommitPhase) (t : BankId) (g : BitVec 16) (i image : Image) (done again low : Bool)
    (cut : List Instr), s.mode = .running → s.rstLow = false → s.StoreOk →
    s.engine.inFlight = some (.commit ph t g i) →
    (cut = [.lossOfPower done, .powerOn again, .startUpLoadEnd low]
      ∨ cut = [.rstNAssert done, .rstNRelease, .startUpLoadEnd low]) →
    execAll cut s = .next u →
    image = (if ph = .seal true then i
      else if (s.store.record.get t.other).state = .valid then (s.store.nv.get t.other).body else factoryImage) →
    u.mode = .running ∧ u.globals = image.globals ∧ u.chanCfg = image.chans ∧ u.outCfg = image.outs
      ∧ u.attnMask = image.attnMask
      ∧ (∀ p : PatIdx, (∀ q, image.pats[p] = some q → u.patDef[p].header = q.header ∧ u.patDef[p].steps = q.steps)
          ∧ (image.pats[p] = none → u.patState[p] = .empty))
      ∧ u.store.source = (if ph = .seal true then .bank t
          else if (s.store.record.get t.other).state = .valid then .bank t.other else .factory)
      ∧ u.store.current = (if ph = .seal true then some t
          else if (s.store.record.get t.other).state = .valid then some t.other else none)
      ∧ (u.store.record.get t).generation = (if ph = .seal true then g else 0)
      ∧ u.store.nv.get t.other = s.store.nv.get t.other
      ∧ u.store.damagedAtStart.get t = decide (ph ≠ .seal true ∧ ¬ (ph = .erase ∧ done = true))
      ∧ (u.store.damagedAtStart.get t = true → u.flags.getLsbD 5 = true)

/-- R175 to R178, R11, R37, R60, R61, R126, R144: RESTORE_STORED ends with NO_IMAGE where no bank is current; otherwise
it and RESTORE_FACTORY are accepted, and at the take the scanner halts, trackers, held set, channels and an open build
are emptied without trace, and pulses and follows become HIGH. At the end of the load every block takes its state from
the image, the port is offered its ADDRESS, and OK is posted; all that R176 keeps is kept. A RESTORE_LOAD_END with no
restore in flight changes nothing (the model's choice, log 3). -/
def Obligations.RestoresReplaceTheConfiguration : Prop :=
  (∀ s : State, s.Takes →
    (s.store.current = none → exec .restoreStored s = .next (s.posted 0x41#8 .noImage 0))
    ∧ ∀ (i : Instr) (code : Byte) (x : Source),
      (i = .restoreFactory ∧ code = 0x42#8 ∧ x = .factory
        ∨ ∃ k, s.store.current = some k ∧ i = .restoreStored ∧ code = 0x41#8 ∧ x = .bank k) →
      exec i s = .next ({ s with
        scanner := { running := false, lastScan := none, nextScan := none, scan := none }
        trackers := Vector.replicate 6 .free
        held := 0
        chanLive := Vector.ofFn fun c : Chan => s.chanLive[c].cleared .off
        patDef := Vector.ofFn fun p : PatIdx => if s.patState[p] = PatState.building then PatDef.empty else s.patDef[p]
        patState := Vector.ofFn fun p : PatIdx => if s.patState[p] = PatState.building then PatState.empty
          else if s.patState[p] = PatState.active then PatState.ready else s.patState[p]
        poolFree := s.poolFree + ((List.finRange 24).map fun p : PatIdx =>
          if s.patState[p] = PatState.building then s.patDef[p].steps.length else 0).sum
        build := none
        outState := Vector.ofFn fun o : OutIdx =>
          if s.outState[o].active = true then OutState.high
          else s.outState[o] }.accepted code (.restore x)))
  ∧ (∀ (s : State) (x : Source) (image : Image) (live : Vector ChanLive 12), s.engine.inFlight = some (.restore x) →
    image = (match x with
      | .factory => factoryImage
      | .bank .a => s.store.nv.a.body
      | .bank .b => s.store.nv.b.body) →
    live = (Vector.ofFn fun c : Chan => ChanLive.zero (if image.chans[c].enable = false then ChanState.off
      else if image.globals.scanAtStart then ChanState.settling else ChanState.suspended)) →
    exec .restoreLoadEnd s = .next { s with
      scanner := if image.globals.scanAtStart then
          { running := true, lastScan := some s.time
            nextScan := some (s.time + BitVec.ofNat 32 image.globals.scanPeriod), scan := scanOf (measuredIn live) }
        else { running := false, lastScan := none, nextScan := none, scan := none }
      globals := image.globals, chanCfg := image.chans, chanLive := live
      patDef := Vector.ofFn fun p : PatIdx => match image.pats[p] with
        | none => PatDef.empty
        | some q => { header := q.header, steps := q.steps
                      univ := q.steps.foldl (fun (acc : ChanSet) (x : Step) => acc ||| x.channels) 0 }
      patState := Vector.ofFn fun p : PatIdx => match image.pats[p] with
        | none => PatState.empty
        | some q => if q.enabled then PatState.ready else PatState.disabled
      poolFree := 96 - image.stepTotal
      build := none, held := 0, trackers := Vector.replicate 6 .free, outCfg := image.outs
      outState := Vector.ofFn fun o : OutIdx => if image.outs[o].enable = false then OutState.off
        else if image.outs[o].initialHigh then OutState.high else OutState.low
      flags := s.flags ||| 0x01#6
      attnMask := image.attnMask
      engine := { s.engine with status := .done, result := .ok, detail := 0, inFlight := none }
      port := if s.port.strap then s.port else { s.port with
        waiting := if image.globals.address = s.port.inUse then none else some image.globals.address }
      store := { s.store with source := x } })
  ∧ ∀ s : State, (∀ x, s.engine.inFlight ≠ some (.restore x)) → exec .restoreLoadEnd s = .next s

/-- R179: ERASE_STORED erases the bank that is not current first and the current one second (A, then B, where none is
current), passes over a bank that its record shows BLANK at the take, shows each bank DAMAGED from the beginning of its
erase and BLANK from its end, and posts OK when both turns are done. (That turns passed over take no time, so that two
BLANK banks end the command in the step that takes it, is deduced, log 16; that the second erase begins in the step that
ends the first is the model's choice, log 27.) -/
def Obligations.EraseStoredBlanksBothBanks : Prop :=
  (∀ (s : State) (x y : BankId), s.Takes → y = x.other →
    (s.store.current = some .a → x = .b) → (s.store.current ≠ some .a → x = .a) →
    ((s.store.record.get x).state = .blank → (s.store.record.get y).state = .blank →
      exec .eraseStored s = .next (s.posted 0x43#8 .ok 0))
    ∧ ∀ (i : BankId) (f : Option BankId),
      ((s.store.record.get x).state ≠ .blank ∧ i = x ∧ f = some y
        ∨ (s.store.record.get x).state = .blank ∧ (s.store.record.get y).state ≠ .blank ∧ i = y ∧ f = none) →
      ∃ n : NvBank, n.judge = .damaged ∧ exec .eraseStored s = .next
        ({ s with store := { s.store with
            nv := s.store.nv.put i n
            record := s.store.record.put i { state := .damaged, generation := 0 } } }.accepted 0x43#8 (.erase i f)))
  ∧ (∀ (s v : State) (i j : BankId), s.engine.inFlight = some (.erase i (some j)) → i ≠ j →
    v = { s with store := { s.store with
        nv := s.store.nv.put i NvBank.blank
        record := s.store.record.put i { state := .blank, generation := 0 } } } →
    ((s.store.record.get j).state = .blank → exec .eraseFirstBankEnd s = .next { v with
      engine := { s.engine with status := .done, result := .ok, detail := 0, inFlight := none }
      flags := s.flags ||| 0x01#6 })
    ∧ ((s.store.record.get j).state ≠ .blank → ∃ n : NvBank, n.judge = .damaged ∧
      exec .eraseFirstBankEnd s = .next { v with
        engine := { s.engine with inFlight := some (.erase j none) }
        store := { v.store with
          nv := v.store.nv.put j n, record := v.store.record.put j { state := .damaged, generation := 0 } } }))
  ∧ ∀ (s : State) (i : BankId), s.engine.inFlight = some (.erase i none) →
    exec .eraseSecondBankEnd s = .next { s with
      store := { s.store with
        nv := s.store.nv.put i NvBank.blank
        record := s.store.record.put i { state := .blank, generation := 0 } }
      engine := { s.engine with status := .done, result := .ok, detail := 0, inFlight := none }
      flags := s.flags ||| 0x01#6 }
end

