-- ==== Sys2Proof/Laws/State.lean ====
section
/-! SUPPORT. What each update of the state leaves in each field: one lemma per field per update, each true by
unfolding, so that no proof unfolds a record update. -/

namespace Sys2Proof.Machine

/-! ## `State.setLive` -/

@[simp] theorem State.setLive_pending (s : State) (c : Chan) (l : ChanLive) :
    (s.setLive c l).pending = s.pending := rfl
@[simp] theorem State.setLive_mode (s : State) (c : Chan) (l : ChanLive) : (s.setLive c l).mode = s.mode := rfl
@[simp] theorem State.setLive_rstLow (s : State) (c : Chan) (l : ChanLive) : (s.setLive c l).rstLow = s.rstLow := rfl
@[simp] theorem State.setLive_resetCause (s : State) (c : Chan) (l : ChanLive) :
    (s.setLive c l).resetCause = s.resetCause := rfl
@[simp] theorem State.setLive_time (s : State) (c : Chan) (l : ChanLive) : (s.setLive c l).time = s.time := rfl
@[simp] theorem State.setLive_scanner (s : State) (c : Chan) (l : ChanLive) :
    (s.setLive c l).scanner = s.scanner := rfl
@[simp] theorem State.setLive_globals (s : State) (c : Chan) (l : ChanLive) :
    (s.setLive c l).globals = s.globals := rfl
@[simp] theorem State.setLive_chanCfg (s : State) (c : Chan) (l : ChanLive) :
    (s.setLive c l).chanCfg = s.chanCfg := rfl
@[simp] theorem State.setLive_chanLive (s : State) (c : Chan) (l : ChanLive) :
    (s.setLive c l).chanLive = s.chanLive.set c l := rfl
@[simp] theorem State.setLive_patDef (s : State) (c : Chan) (l : ChanLive) : (s.setLive c l).patDef = s.patDef := rfl
@[simp] theorem State.setLive_patState (s : State) (c : Chan) (l : ChanLive) :
    (s.setLive c l).patState = s.patState := rfl
@[simp] theorem State.setLive_poolFree (s : State) (c : Chan) (l : ChanLive) :
    (s.setLive c l).poolFree = s.poolFree := rfl
@[simp] theorem State.setLive_build (s : State) (c : Chan) (l : ChanLive) : (s.setLive c l).build = s.build := rfl
@[simp] theorem State.setLive_held (s : State) (c : Chan) (l : ChanLive) : (s.setLive c l).held = s.held := rfl
@[simp] theorem State.setLive_trackers (s : State) (c : Chan) (l : ChanLive) :
    (s.setLive c l).trackers = s.trackers := rfl
@[simp] theorem State.setLive_outCfg (s : State) (c : Chan) (l : ChanLive) : (s.setLive c l).outCfg = s.outCfg := rfl
@[simp] theorem State.setLive_outState (s : State) (c : Chan) (l : ChanLive) :
    (s.setLive c l).outState = s.outState := rfl
@[simp] theorem State.setLive_outLevel (s : State) (c : Chan) (l : ChanLive) :
    (s.setLive c l).outLevel = s.outLevel := rfl
@[simp] theorem State.setLive_report (s : State) (c : Chan) (l : ChanLive) : (s.setLive c l).report = s.report := rfl
@[simp] theorem State.setLive_flags (s : State) (c : Chan) (l : ChanLive) : (s.setLive c l).flags = s.flags := rfl
@[simp] theorem State.setLive_attnMask (s : State) (c : Chan) (l : ChanLive) :
    (s.setLive c l).attnMask = s.attnMask := rfl
@[simp] theorem State.setLive_engine (s : State) (c : Chan) (l : ChanLive) : (s.setLive c l).engine = s.engine := rfl
@[simp] theorem State.setLive_port (s : State) (c : Chan) (l : ChanLive) : (s.setLive c l).port = s.port := rfl
@[simp] theorem State.setLive_store (s : State) (c : Chan) (l : ChanLive) : (s.setLive c l).store = s.store := rfl

/-! ## `State.putRecog` -/

@[simp] theorem State.putRecog_pending (s : State) (w : Recog) : (s.putRecog w).pending = s.pending := rfl
@[simp] theorem State.putRecog_mode (s : State) (w : Recog) : (s.putRecog w).mode = s.mode := rfl
@[simp] theorem State.putRecog_rstLow (s : State) (w : Recog) : (s.putRecog w).rstLow = s.rstLow := rfl
@[simp] theorem State.putRecog_resetCause (s : State) (w : Recog) : (s.putRecog w).resetCause = s.resetCause := rfl
@[simp] theorem State.putRecog_time (s : State) (w : Recog) : (s.putRecog w).time = s.time := rfl
@[simp] theorem State.putRecog_scanner (s : State) (w : Recog) : (s.putRecog w).scanner = s.scanner := rfl
@[simp] theorem State.putRecog_globals (s : State) (w : Recog) : (s.putRecog w).globals = s.globals := rfl
@[simp] theorem State.putRecog_chanCfg (s : State) (w : Recog) : (s.putRecog w).chanCfg = s.chanCfg := rfl
@[simp] theorem State.putRecog_chanLive (s : State) (w : Recog) : (s.putRecog w).chanLive = s.chanLive := rfl
@[simp] theorem State.putRecog_patDef (s : State) (w : Recog) : (s.putRecog w).patDef = s.patDef := rfl
@[simp] theorem State.putRecog_patState (s : State) (w : Recog) : (s.putRecog w).patState = w.pstate := rfl
@[simp] theorem State.putRecog_poolFree (s : State) (w : Recog) : (s.putRecog w).poolFree = s.poolFree := rfl
@[simp] theorem State.putRecog_build (s : State) (w : Recog) : (s.putRecog w).build = s.build := rfl
@[simp] theorem State.putRecog_held (s : State) (w : Recog) : (s.putRecog w).held = w.held := rfl
@[simp] theorem State.putRecog_trackers (s : State) (w : Recog) : (s.putRecog w).trackers = w.trackers := rfl
@[simp] theorem State.putRecog_outCfg (s : State) (w : Recog) : (s.putRecog w).outCfg = s.outCfg := rfl
@[simp] theorem State.putRecog_outState (s : State) (w : Recog) : (s.putRecog w).outState = w.outs := rfl
@[simp] theorem State.putRecog_outLevel (s : State) (w : Recog) : (s.putRecog w).outLevel = s.outLevel := rfl
@[simp] theorem State.putRecog_report (s : State) (w : Recog) : (s.putRecog w).report = s.report := rfl
@[simp] theorem State.putRecog_flags (s : State) (w : Recog) : (s.putRecog w).flags = w.flags := rfl
@[simp] theorem State.putRecog_attnMask (s : State) (w : Recog) : (s.putRecog w).attnMask = s.attnMask := rfl
@[simp] theorem State.putRecog_engine (s : State) (w : Recog) : (s.putRecog w).engine = s.engine := rfl
@[simp] theorem State.putRecog_port (s : State) (w : Recog) : (s.putRecog w).port = s.port := rfl
@[simp] theorem State.putRecog_store (s : State) (w : Recog) : (s.putRecog w).store = s.store := rfl

/-! ## `State.push` -/

@[simp] theorem State.push_pending (r : Record) (s : State) : (s.push r).pending = s.pending := rfl
@[simp] theorem State.push_mode (r : Record) (s : State) : (s.push r).mode = s.mode := rfl
@[simp] theorem State.push_rstLow (r : Record) (s : State) : (s.push r).rstLow = s.rstLow := rfl
@[simp] theorem State.push_resetCause (r : Record) (s : State) : (s.push r).resetCause = s.resetCause := rfl
@[simp] theorem State.push_time (r : Record) (s : State) : (s.push r).time = s.time := rfl
@[simp] theorem State.push_scanner (r : Record) (s : State) : (s.push r).scanner = s.scanner := rfl
@[simp] theorem State.push_globals (r : Record) (s : State) : (s.push r).globals = s.globals := rfl
@[simp] theorem State.push_chanCfg (r : Record) (s : State) : (s.push r).chanCfg = s.chanCfg := rfl
@[simp] theorem State.push_chanLive (r : Record) (s : State) : (s.push r).chanLive = s.chanLive := rfl
@[simp] theorem State.push_patDef (r : Record) (s : State) : (s.push r).patDef = s.patDef := rfl
@[simp] theorem State.push_patState (r : Record) (s : State) : (s.push r).patState = s.patState := rfl
@[simp] theorem State.push_poolFree (r : Record) (s : State) : (s.push r).poolFree = s.poolFree := rfl
@[simp] theorem State.push_build (r : Record) (s : State) : (s.push r).build = s.build := rfl
@[simp] theorem State.push_held (r : Record) (s : State) : (s.push r).held = s.held := rfl
@[simp] theorem State.push_trackers (r : Record) (s : State) : (s.push r).trackers = s.trackers := rfl
@[simp] theorem State.push_outCfg (r : Record) (s : State) : (s.push r).outCfg = s.outCfg := rfl
@[simp] theorem State.push_outState (r : Record) (s : State) : (s.push r).outState = s.outState := rfl
@[simp] theorem State.push_outLevel (r : Record) (s : State) : (s.push r).outLevel = s.outLevel := rfl
@[simp] theorem State.push_report (r : Record) (s : State) : (s.push r).report = s.report.push r := rfl
@[simp] theorem State.push_flags (r : Record) (s : State) :
    (s.push r).flags = if s.report.records.length < queueSize then s.flags else raiseFlag .queueLost s.flags := rfl
@[simp] theorem State.push_attnMask (r : Record) (s : State) : (s.push r).attnMask = s.attnMask := rfl
@[simp] theorem State.push_engine (r : Record) (s : State) : (s.push r).engine = s.engine := rfl
@[simp] theorem State.push_port (r : Record) (s : State) : (s.push r).port = s.port := rfl
@[simp] theorem State.push_store (r : Record) (s : State) : (s.push r).store = s.store := rfl

/-! ## `State.raise` -/

@[simp] theorem State.raise_pending (s : State) (f : EventFlag) : (s.raise f).pending = s.pending := rfl
@[simp] theorem State.raise_mode (s : State) (f : EventFlag) : (s.raise f).mode = s.mode := rfl
@[simp] theorem State.raise_rstLow (s : State) (f : EventFlag) : (s.raise f).rstLow = s.rstLow := rfl
@[simp] theorem State.raise_resetCause (s : State) (f : EventFlag) : (s.raise f).resetCause = s.resetCause := rfl
@[simp] theorem State.raise_time (s : State) (f : EventFlag) : (s.raise f).time = s.time := rfl
@[simp] theorem State.raise_scanner (s : State) (f : EventFlag) : (s.raise f).scanner = s.scanner := rfl
@[simp] theorem State.raise_globals (s : State) (f : EventFlag) : (s.raise f).globals = s.globals := rfl
@[simp] theorem State.raise_chanCfg (s : State) (f : EventFlag) : (s.raise f).chanCfg = s.chanCfg := rfl
@[simp] theorem State.raise_chanLive (s : State) (f : EventFlag) : (s.raise f).chanLive = s.chanLive := rfl
@[simp] theorem State.raise_patDef (s : State) (f : EventFlag) : (s.raise f).patDef = s.patDef := rfl
@[simp] theorem State.raise_patState (s : State) (f : EventFlag) : (s.raise f).patState = s.patState := rfl
@[simp] theorem State.raise_poolFree (s : State) (f : EventFlag) : (s.raise f).poolFree = s.poolFree := rfl
@[simp] theorem State.raise_build (s : State) (f : EventFlag) : (s.raise f).build = s.build := rfl
@[simp] theorem State.raise_held (s : State) (f : EventFlag) : (s.raise f).held = s.held := rfl
@[simp] theorem State.raise_trackers (s : State) (f : EventFlag) : (s.raise f).trackers = s.trackers := rfl
@[simp] theorem State.raise_outCfg (s : State) (f : EventFlag) : (s.raise f).outCfg = s.outCfg := rfl
@[simp] theorem State.raise_outState (s : State) (f : EventFlag) : (s.raise f).outState = s.outState := rfl
@[simp] theorem State.raise_outLevel (s : State) (f : EventFlag) : (s.raise f).outLevel = s.outLevel := rfl
@[simp] theorem State.raise_report (s : State) (f : EventFlag) : (s.raise f).report = s.report := rfl
@[simp] theorem State.raise_flags (s : State) (f : EventFlag) : (s.raise f).flags = raiseFlag f s.flags := rfl
@[simp] theorem State.raise_attnMask (s : State) (f : EventFlag) : (s.raise f).attnMask = s.attnMask := rfl
@[simp] theorem State.raise_engine (s : State) (f : EventFlag) : (s.raise f).engine = s.engine := rfl
@[simp] theorem State.raise_port (s : State) (f : EventFlag) : (s.raise f).port = s.port := rfl
@[simp] theorem State.raise_store (s : State) (f : EventFlag) : (s.raise f).store = s.store := rfl

/-! ## `State.setAck` -/

@[simp] theorem State.setAck_pending (s : State) (a : Bool) : (s.setAck a).pending = s.pending := rfl
@[simp] theorem State.setAck_mode (s : State) (a : Bool) : (s.setAck a).mode = s.mode := rfl
@[simp] theorem State.setAck_rstLow (s : State) (a : Bool) : (s.setAck a).rstLow = s.rstLow := rfl
@[simp] theorem State.setAck_resetCause (s : State) (a : Bool) : (s.setAck a).resetCause = s.resetCause := rfl
@[simp] theorem State.setAck_time (s : State) (a : Bool) : (s.setAck a).time = s.time := rfl
@[simp] theorem State.setAck_scanner (s : State) (a : Bool) : (s.setAck a).scanner = s.scanner := rfl
@[simp] theorem State.setAck_globals (s : State) (a : Bool) : (s.setAck a).globals = s.globals := rfl
@[simp] theorem State.setAck_chanCfg (s : State) (a : Bool) : (s.setAck a).chanCfg = s.chanCfg := rfl
@[simp] theorem State.setAck_chanLive (s : State) (a : Bool) : (s.setAck a).chanLive = s.chanLive := rfl
@[simp] theorem State.setAck_patDef (s : State) (a : Bool) : (s.setAck a).patDef = s.patDef := rfl
@[simp] theorem State.setAck_patState (s : State) (a : Bool) : (s.setAck a).patState = s.patState := rfl
@[simp] theorem State.setAck_poolFree (s : State) (a : Bool) : (s.setAck a).poolFree = s.poolFree := rfl
@[simp] theorem State.setAck_build (s : State) (a : Bool) : (s.setAck a).build = s.build := rfl
@[simp] theorem State.setAck_held (s : State) (a : Bool) : (s.setAck a).held = s.held := rfl
@[simp] theorem State.setAck_trackers (s : State) (a : Bool) : (s.setAck a).trackers = s.trackers := rfl
@[simp] theorem State.setAck_outCfg (s : State) (a : Bool) : (s.setAck a).outCfg = s.outCfg := rfl
@[simp] theorem State.setAck_outState (s : State) (a : Bool) : (s.setAck a).outState = s.outState := rfl
@[simp] theorem State.setAck_outLevel (s : State) (a : Bool) : (s.setAck a).outLevel = s.outLevel := rfl
@[simp] theorem State.setAck_report (s : State) (a : Bool) : (s.setAck a).report = s.report := rfl
@[simp] theorem State.setAck_flags (s : State) (a : Bool) : (s.setAck a).flags = s.flags := rfl
@[simp] theorem State.setAck_attnMask (s : State) (a : Bool) : (s.setAck a).attnMask = s.attnMask := rfl
@[simp] theorem State.setAck_engine (s : State) (a : Bool) : (s.setAck a).engine = s.engine := rfl
@[simp] theorem State.setAck_port (s : State) (a : Bool) : (s.setAck a).port = { s.port with ack := a } := rfl
@[simp] theorem State.setAck_store (s : State) (a : Bool) : (s.setAck a).store = s.store := rfl

/-! ## `State.bumpPointer` -/

@[simp] theorem State.bumpPointer_pending (s : State) : (s.bumpPointer).pending = s.pending := rfl
@[simp] theorem State.bumpPointer_mode (s : State) : (s.bumpPointer).mode = s.mode := rfl
@[simp] theorem State.bumpPointer_rstLow (s : State) : (s.bumpPointer).rstLow = s.rstLow := rfl
@[simp] theorem State.bumpPointer_resetCause (s : State) : (s.bumpPointer).resetCause = s.resetCause := rfl
@[simp] theorem State.bumpPointer_time (s : State) : (s.bumpPointer).time = s.time := rfl
@[simp] theorem State.bumpPointer_scanner (s : State) : (s.bumpPointer).scanner = s.scanner := rfl
@[simp] theorem State.bumpPointer_globals (s : State) : (s.bumpPointer).globals = s.globals := rfl
@[simp] theorem State.bumpPointer_chanCfg (s : State) : (s.bumpPointer).chanCfg = s.chanCfg := rfl
@[simp] theorem State.bumpPointer_chanLive (s : State) : (s.bumpPointer).chanLive = s.chanLive := rfl
@[simp] theorem State.bumpPointer_patDef (s : State) : (s.bumpPointer).patDef = s.patDef := rfl
@[simp] theorem State.bumpPointer_patState (s : State) : (s.bumpPointer).patState = s.patState := rfl
@[simp] theorem State.bumpPointer_poolFree (s : State) : (s.bumpPointer).poolFree = s.poolFree := rfl
@[simp] theorem State.bumpPointer_build (s : State) : (s.bumpPointer).build = s.build := rfl
@[simp] theorem State.bumpPointer_held (s : State) : (s.bumpPointer).held = s.held := rfl
@[simp] theorem State.bumpPointer_trackers (s : State) : (s.bumpPointer).trackers = s.trackers := rfl
@[simp] theorem State.bumpPointer_outCfg (s : State) : (s.bumpPointer).outCfg = s.outCfg := rfl
@[simp] theorem State.bumpPointer_outState (s : State) : (s.bumpPointer).outState = s.outState := rfl
@[simp] theorem State.bumpPointer_outLevel (s : State) : (s.bumpPointer).outLevel = s.outLevel := rfl
@[simp] theorem State.bumpPointer_report (s : State) : (s.bumpPointer).report = s.report := rfl
@[simp] theorem State.bumpPointer_flags (s : State) : (s.bumpPointer).flags = s.flags := rfl
@[simp] theorem State.bumpPointer_attnMask (s : State) : (s.bumpPointer).attnMask = s.attnMask := rfl
@[simp] theorem State.bumpPointer_engine (s : State) : (s.bumpPointer).engine = s.engine := rfl
@[simp] theorem State.bumpPointer_port (s : State) :
    (s.bumpPointer).port = { s.port with pointer := s.port.pointer + 1 } := rfl
@[simp] theorem State.bumpPointer_store (s : State) : (s.bumpPointer).store = s.store := rfl

/-! ## `State.acked` -/

@[simp] theorem State.acked_pending (s : State) : (s.acked).pending = s.pending := rfl
@[simp] theorem State.acked_mode (s : State) : (s.acked).mode = s.mode := rfl
@[simp] theorem State.acked_rstLow (s : State) : (s.acked).rstLow = s.rstLow := rfl
@[simp] theorem State.acked_resetCause (s : State) : (s.acked).resetCause = s.resetCause := rfl
@[simp] theorem State.acked_time (s : State) : (s.acked).time = s.time := rfl
@[simp] theorem State.acked_scanner (s : State) : (s.acked).scanner = s.scanner := rfl
@[simp] theorem State.acked_globals (s : State) : (s.acked).globals = s.globals := rfl
@[simp] theorem State.acked_chanCfg (s : State) : (s.acked).chanCfg = s.chanCfg := rfl
@[simp] theorem State.acked_chanLive (s : State) : (s.acked).chanLive = s.chanLive := rfl
@[simp] theorem State.acked_patDef (s : State) : (s.acked).patDef = s.patDef := rfl
@[simp] theorem State.acked_patState (s : State) : (s.acked).patState = s.patState := rfl
@[simp] theorem State.acked_poolFree (s : State) : (s.acked).poolFree = s.poolFree := rfl
@[simp] theorem State.acked_build (s : State) : (s.acked).build = s.build := rfl
@[simp] theorem State.acked_held (s : State) : (s.acked).held = s.held := rfl
@[simp] theorem State.acked_trackers (s : State) : (s.acked).trackers = s.trackers := rfl
@[simp] theorem State.acked_outCfg (s : State) : (s.acked).outCfg = s.outCfg := rfl
@[simp] theorem State.acked_outState (s : State) : (s.acked).outState = s.outState := rfl
@[simp] theorem State.acked_outLevel (s : State) : (s.acked).outLevel = s.outLevel := rfl
@[simp] theorem State.acked_report (s : State) : (s.acked).report = s.report := rfl
@[simp] theorem State.acked_flags (s : State) : (s.acked).flags = s.flags := rfl
@[simp] theorem State.acked_attnMask (s : State) : (s.acked).attnMask = s.attnMask := rfl
@[simp] theorem State.acked_engine (s : State) : (s.acked).engine = s.engine := rfl
@[simp] theorem State.acked_port (s : State) :
    (s.acked).port = { s.port with ack := true, pointer := s.port.pointer + 1 } := rfl
@[simp] theorem State.acked_store (s : State) : (s.acked).store = s.store := rfl

/-! ## `State.setFlight` -/

@[simp] theorem State.setFlight_pending (s : State) (c : LongCmd) : (s.setFlight c).pending = s.pending := rfl
@[simp] theorem State.setFlight_mode (s : State) (c : LongCmd) : (s.setFlight c).mode = s.mode := rfl
@[simp] theorem State.setFlight_rstLow (s : State) (c : LongCmd) : (s.setFlight c).rstLow = s.rstLow := rfl
@[simp] theorem State.setFlight_resetCause (s : State) (c : LongCmd) :
    (s.setFlight c).resetCause = s.resetCause := rfl
@[simp] theorem State.setFlight_time (s : State) (c : LongCmd) : (s.setFlight c).time = s.time := rfl
@[simp] theorem State.setFlight_scanner (s : State) (c : LongCmd) : (s.setFlight c).scanner = s.scanner := rfl
@[simp] theorem State.setFlight_globals (s : State) (c : LongCmd) : (s.setFlight c).globals = s.globals := rfl
@[simp] theorem State.setFlight_chanCfg (s : State) (c : LongCmd) : (s.setFlight c).chanCfg = s.chanCfg := rfl
@[simp] theorem State.setFlight_chanLive (s : State) (c : LongCmd) : (s.setFlight c).chanLive = s.chanLive := rfl
@[simp] theorem State.setFlight_patDef (s : State) (c : LongCmd) : (s.setFlight c).patDef = s.patDef := rfl
@[simp] theorem State.setFlight_patState (s : State) (c : LongCmd) : (s.setFlight c).patState = s.patState := rfl
@[simp] theorem State.setFlight_poolFree (s : State) (c : LongCmd) : (s.setFlight c).poolFree = s.poolFree := rfl
@[simp] theorem State.setFlight_build (s : State) (c : LongCmd) : (s.setFlight c).build = s.build := rfl
@[simp] theorem State.setFlight_held (s : State) (c : LongCmd) : (s.setFlight c).held = s.held := rfl
@[simp] theorem State.setFlight_trackers (s : State) (c : LongCmd) : (s.setFlight c).trackers = s.trackers := rfl
@[simp] theorem State.setFlight_outCfg (s : State) (c : LongCmd) : (s.setFlight c).outCfg = s.outCfg := rfl
@[simp] theorem State.setFlight_outState (s : State) (c : LongCmd) : (s.setFlight c).outState = s.outState := rfl
@[simp] theorem State.setFlight_outLevel (s : State) (c : LongCmd) : (s.setFlight c).outLevel = s.outLevel := rfl
@[simp] theorem State.setFlight_report (s : State) (c : LongCmd) : (s.setFlight c).report = s.report := rfl
@[simp] theorem State.setFlight_flags (s : State) (c : LongCmd) : (s.setFlight c).flags = s.flags := rfl
@[simp] theorem State.setFlight_attnMask (s : State) (c : LongCmd) : (s.setFlight c).attnMask = s.attnMask := rfl
@[simp] theorem State.setFlight_engine (s : State) (c : LongCmd) :
    (s.setFlight c).engine = { s.engine with inFlight := some c } := rfl
@[simp] theorem State.setFlight_port (s : State) (c : LongCmd) : (s.setFlight c).port = s.port := rfl
@[simp] theorem State.setFlight_store (s : State) (c : LongCmd) : (s.setFlight c).store = s.store := rfl

/-! ## `State.setPattern` -/

@[simp] theorem State.setPattern_pending (s : State) (p : PatIdx) (d : PatDef) (st : PatState) :
    (s.setPattern p d st).pending = s.pending := rfl
@[simp] theorem State.setPattern_mode (s : State) (p : PatIdx) (d : PatDef) (st : PatState) :
    (s.setPattern p d st).mode = s.mode := rfl
@[simp] theorem State.setPattern_rstLow (s : State) (p : PatIdx) (d : PatDef) (st : PatState) :
    (s.setPattern p d st).rstLow = s.rstLow := rfl
@[simp] theorem State.setPattern_resetCause (s : State) (p : PatIdx) (d : PatDef) (st : PatState) :
    (s.setPattern p d st).resetCause = s.resetCause := rfl
@[simp] theorem State.setPattern_time (s : State) (p : PatIdx) (d : PatDef) (st : PatState) :
    (s.setPattern p d st).time = s.time := rfl
@[simp] theorem State.setPattern_scanner (s : State) (p : PatIdx) (d : PatDef) (st : PatState) :
    (s.setPattern p d st).scanner = s.scanner := rfl
@[simp] theorem State.setPattern_globals (s : State) (p : PatIdx) (d : PatDef) (st : PatState) :
    (s.setPattern p d st).globals = s.globals := rfl
@[simp] theorem State.setPattern_chanCfg (s : State) (p : PatIdx) (d : PatDef) (st : PatState) :
    (s.setPattern p d st).chanCfg = s.chanCfg := rfl
@[simp] theorem State.setPattern_chanLive (s : State) (p : PatIdx) (d : PatDef) (st : PatState) :
    (s.setPattern p d st).chanLive = s.chanLive := rfl
@[simp] theorem State.setPattern_patDef (s : State) (p : PatIdx) (d : PatDef) (st : PatState) :
    (s.setPattern p d st).patDef = s.patDef.set p d := rfl
@[simp] theorem State.setPattern_patState (s : State) (p : PatIdx) (d : PatDef) (st : PatState) :
    (s.setPattern p d st).patState = s.patState.set p st := rfl
@[simp] theorem State.setPattern_poolFree (s : State) (p : PatIdx) (d : PatDef) (st : PatState) :
    (s.setPattern p d st).poolFree = s.poolFree := rfl
@[simp] theorem State.setPattern_build (s : State) (p : PatIdx) (d : PatDef) (st : PatState) :
    (s.setPattern p d st).build = s.build := rfl
@[simp] theorem State.setPattern_held (s : State) (p : PatIdx) (d : PatDef) (st : PatState) :
    (s.setPattern p d st).held = s.held := rfl
@[simp] theorem State.setPattern_trackers (s : State) (p : PatIdx) (d : PatDef) (st : PatState) :
    (s.setPattern p d st).trackers = s.trackers := rfl
@[simp] theorem State.setPattern_outCfg (s : State) (p : PatIdx) (d : PatDef) (st : PatState) :
    (s.setPattern p d st).outCfg = s.outCfg := rfl
@[simp] theorem State.setPattern_outState (s : State) (p : PatIdx) (d : PatDef) (st : PatState) :
    (s.setPattern p d st).outState = s.outState := rfl
@[simp] theorem State.setPattern_outLevel (s : State) (p : PatIdx) (d : PatDef) (st : PatState) :
    (s.setPattern p d st).outLevel = s.outLevel := rfl
@[simp] theorem State.setPattern_report (s : State) (p : PatIdx) (d : PatDef) (st : PatState) :
    (s.setPattern p d st).report = s.report := rfl
@[simp] theorem State.setPattern_flags (s : State) (p : PatIdx) (d : PatDef) (st : PatState) :
    (s.setPattern p d st).flags = s.flags := rfl
@[simp] theorem State.setPattern_attnMask (s : State) (p : PatIdx) (d : PatDef) (st : PatState) :
    (s.setPattern p d st).attnMask = s.attnMask := rfl
@[simp] theorem State.setPattern_engine (s : State) (p : PatIdx) (d : PatDef) (st : PatState) :
    (s.setPattern p d st).engine = s.engine := rfl
@[simp] theorem State.setPattern_port (s : State) (p : PatIdx) (d : PatDef) (st : PatState) :
    (s.setPattern p d st).port = s.port := rfl
@[simp] theorem State.setPattern_store (s : State) (p : PatIdx) (d : PatDef) (st : PatState) :
    (s.setPattern p d st).store = s.store := rfl

/-! ## `State.setPatState` -/

@[simp] theorem State.setPatState_pending (s : State) (p : PatIdx) (st : PatState) :
    (s.setPatState p st).pending = s.pending := rfl
@[simp] theorem State.setPatState_mode (s : State) (p : PatIdx) (st : PatState) :
    (s.setPatState p st).mode = s.mode := rfl
@[simp] theorem State.setPatState_rstLow (s : State) (p : PatIdx) (st : PatState) :
    (s.setPatState p st).rstLow = s.rstLow := rfl
@[simp] theorem State.setPatState_resetCause (s : State) (p : PatIdx) (st : PatState) :
    (s.setPatState p st).resetCause = s.resetCause := rfl
@[simp] theorem State.setPatState_time (s : State) (p : PatIdx) (st : PatState) :
    (s.setPatState p st).time = s.time := rfl
@[simp] theorem State.setPatState_scanner (s : State) (p : PatIdx) (st : PatState) :
    (s.setPatState p st).scanner = s.scanner := rfl
@[simp] theorem State.setPatState_globals (s : State) (p : PatIdx) (st : PatState) :
    (s.setPatState p st).globals = s.globals := rfl
@[simp] theorem State.setPatState_chanCfg (s : State) (p : PatIdx) (st : PatState) :
    (s.setPatState p st).chanCfg = s.chanCfg := rfl
@[simp] theorem State.setPatState_chanLive (s : State) (p : PatIdx) (st : PatState) :
    (s.setPatState p st).chanLive = s.chanLive := rfl
@[simp] theorem State.setPatState_patDef (s : State) (p : PatIdx) (st : PatState) :
    (s.setPatState p st).patDef = s.patDef := rfl
@[simp] theorem State.setPatState_patState (s : State) (p : PatIdx) (st : PatState) :
    (s.setPatState p st).patState = s.patState.set p st := rfl
@[simp] theorem State.setPatState_poolFree (s : State) (p : PatIdx) (st : PatState) :
    (s.setPatState p st).poolFree = s.poolFree := rfl
@[simp] theorem State.setPatState_build (s : State) (p : PatIdx) (st : PatState) :
    (s.setPatState p st).build = s.build := rfl
@[simp] theorem State.setPatState_held (s : State) (p : PatIdx) (st : PatState) :
    (s.setPatState p st).held = s.held := rfl
@[simp] theorem State.setPatState_trackers (s : State) (p : PatIdx) (st : PatState) :
    (s.setPatState p st).trackers = s.trackers := rfl
@[simp] theorem State.setPatState_outCfg (s : State) (p : PatIdx) (st : PatState) :
    (s.setPatState p st).outCfg = s.outCfg := rfl
@[simp] theorem State.setPatState_outState (s : State) (p : PatIdx) (st : PatState) :
    (s.setPatState p st).outState = s.outState := rfl
@[simp] theorem State.setPatState_outLevel (s : State) (p : PatIdx) (st : PatState) :
    (s.setPatState p st).outLevel = s.outLevel := rfl
@[simp] theorem State.setPatState_report (s : State) (p : PatIdx) (st : PatState) :
    (s.setPatState p st).report = s.report := rfl
@[simp] theorem State.setPatState_flags (s : State) (p : PatIdx) (st : PatState) :
    (s.setPatState p st).flags = s.flags := rfl
@[simp] theorem State.setPatState_attnMask (s : State) (p : PatIdx) (st : PatState) :
    (s.setPatState p st).attnMask = s.attnMask := rfl
@[simp] theorem State.setPatState_engine (s : State) (p : PatIdx) (st : PatState) :
    (s.setPatState p st).engine = s.engine := rfl
@[simp] theorem State.setPatState_port (s : State) (p : PatIdx) (st : PatState) :
    (s.setPatState p st).port = s.port := rfl
@[simp] theorem State.setPatState_store (s : State) (p : PatIdx) (st : PatState) :
    (s.setPatState p st).store = s.store := rfl

/-! ## `State.beginScan` -/

@[simp] theorem State.beginScan_pending (s : State) (t : Time) : (s.beginScan t).pending = s.pending := rfl
@[simp] theorem State.beginScan_mode (s : State) (t : Time) : (s.beginScan t).mode = s.mode := rfl
@[simp] theorem State.beginScan_rstLow (s : State) (t : Time) : (s.beginScan t).rstLow = s.rstLow := rfl
@[simp] theorem State.beginScan_resetCause (s : State) (t : Time) : (s.beginScan t).resetCause = s.resetCause := rfl
@[simp] theorem State.beginScan_time (s : State) (t : Time) : (s.beginScan t).time = s.time := rfl
@[simp] theorem State.beginScan_scanner (s : State) (t : Time) :
    (s.beginScan t).scanner = { s.scanner with
      lastScan := some t, nextScan := some (addMs t s.globals.scanPeriod)
      scan := if s.measured.isEmpty then none else some { list := s.measured, left := s.measured } } := rfl
@[simp] theorem State.beginScan_globals (s : State) (t : Time) : (s.beginScan t).globals = s.globals := rfl
@[simp] theorem State.beginScan_chanCfg (s : State) (t : Time) : (s.beginScan t).chanCfg = s.chanCfg := rfl
@[simp] theorem State.beginScan_chanLive (s : State) (t : Time) : (s.beginScan t).chanLive = s.chanLive := rfl
@[simp] theorem State.beginScan_patDef (s : State) (t : Time) : (s.beginScan t).patDef = s.patDef := rfl
@[simp] theorem State.beginScan_patState (s : State) (t : Time) : (s.beginScan t).patState = s.patState := rfl
@[simp] theorem State.beginScan_poolFree (s : State) (t : Time) : (s.beginScan t).poolFree = s.poolFree := rfl
@[simp] theorem State.beginScan_build (s : State) (t : Time) : (s.beginScan t).build = s.build := rfl
@[simp] theorem State.beginScan_held (s : State) (t : Time) : (s.beginScan t).held = s.held := rfl
@[simp] theorem State.beginScan_trackers (s : State) (t : Time) : (s.beginScan t).trackers = s.trackers := rfl
@[simp] theorem State.beginScan_outCfg (s : State) (t : Time) : (s.beginScan t).outCfg = s.outCfg := rfl
@[simp] theorem State.beginScan_outState (s : State) (t : Time) : (s.beginScan t).outState = s.outState := rfl
@[simp] theorem State.beginScan_outLevel (s : State) (t : Time) : (s.beginScan t).outLevel = s.outLevel := rfl
@[simp] theorem State.beginScan_report (s : State) (t : Time) : (s.beginScan t).report = s.report := rfl
@[simp] theorem State.beginScan_flags (s : State) (t : Time) : (s.beginScan t).flags = s.flags := rfl
@[simp] theorem State.beginScan_attnMask (s : State) (t : Time) : (s.beginScan t).attnMask = s.attnMask := rfl
@[simp] theorem State.beginScan_engine (s : State) (t : Time) : (s.beginScan t).engine = s.engine := rfl
@[simp] theorem State.beginScan_port (s : State) (t : Time) : (s.beginScan t).port = s.port := rfl
@[simp] theorem State.beginScan_store (s : State) (t : Time) : (s.beginScan t).store = s.store := rfl

/-! ## `State.postResult` -/

@[simp] theorem State.postResult_pending (s : State) (r : Result) (d : Byte) :
    (s.postResult r d).pending = s.pending := rfl
@[simp] theorem State.postResult_mode (s : State) (r : Result) (d : Byte) : (s.postResult r d).mode = s.mode := rfl
@[simp] theorem State.postResult_rstLow (s : State) (r : Result) (d : Byte) :
    (s.postResult r d).rstLow = s.rstLow := rfl
@[simp] theorem State.postResult_resetCause (s : State) (r : Result) (d : Byte) :
    (s.postResult r d).resetCause = s.resetCause := rfl
@[simp] theorem State.postResult_time (s : State) (r : Result) (d : Byte) : (s.postResult r d).time = s.time := rfl
@[simp] theorem State.postResult_scanner (s : State) (r : Result) (d : Byte) :
    (s.postResult r d).scanner = s.scanner := rfl
@[simp] theorem State.postResult_globals (s : State) (r : Result) (d : Byte) :
    (s.postResult r d).globals = s.globals := rfl
@[simp] theorem State.postResult_chanCfg (s : State) (r : Result) (d : Byte) :
    (s.postResult r d).chanCfg = s.chanCfg := rfl
@[simp] theorem State.postResult_chanLive (s : State) (r : Result) (d : Byte) :
    (s.postResult r d).chanLive = s.chanLive := rfl
@[simp] theorem State.postResult_patDef (s : State) (r : Result) (d : Byte) :
    (s.postResult r d).patDef = s.patDef := rfl
@[simp] theorem State.postResult_patState (s : State) (r : Result) (d : Byte) :
    (s.postResult r d).patState = s.patState := rfl
@[simp] theorem State.postResult_poolFree (s : State) (r : Result) (d : Byte) :
    (s.postResult r d).poolFree = s.poolFree := rfl
@[simp] theorem State.postResult_build (s : State) (r : Result) (d : Byte) : (s.postResult r d).build = s.build := rfl
@[simp] theorem State.postResult_held (s : State) (r : Result) (d : Byte) : (s.postResult r d).held = s.held := rfl
@[simp] theorem State.postResult_trackers (s : State) (r : Result) (d : Byte) :
    (s.postResult r d).trackers = s.trackers := rfl
@[simp] theorem State.postResult_outCfg (s : State) (r : Result) (d : Byte) :
    (s.postResult r d).outCfg = s.outCfg := rfl
@[simp] theorem State.postResult_outState (s : State) (r : Result) (d : Byte) :
    (s.postResult r d).outState = s.outState := rfl
@[simp] theorem State.postResult_outLevel (s : State) (r : Result) (d : Byte) :
    (s.postResult r d).outLevel = s.outLevel := rfl
@[simp] theorem State.postResult_report (s : State) (r : Result) (d : Byte) :
    (s.postResult r d).report = s.report := rfl
@[simp] theorem State.postResult_flags (s : State) (r : Result) (d : Byte) :
    (s.postResult r d).flags = raiseFlag .cmdDone s.flags := rfl
@[simp] theorem State.postResult_attnMask (s : State) (r : Result) (d : Byte) :
    (s.postResult r d).attnMask = s.attnMask := rfl
@[simp] theorem State.postResult_engine (s : State) (r : Result) (d : Byte) :
    (s.postResult r d).engine = { s.engine with
      result := r, detail := d, inFlight := none, status := if r = .ok then .done else .error } := rfl
@[simp] theorem State.postResult_port (s : State) (r : Result) (d : Byte) : (s.postResult r d).port = s.port := rfl
@[simp] theorem State.postResult_store (s : State) (r : Result) (d : Byte) : (s.postResult r d).store = s.store := rfl

/-! ## `State.acceptLong` -/

@[simp] theorem State.acceptLong_pending (s : State) (c : LongCmd) : (s.acceptLong c).pending = s.pending := rfl
@[simp] theorem State.acceptLong_mode (s : State) (c : LongCmd) : (s.acceptLong c).mode = s.mode := rfl
@[simp] theorem State.acceptLong_rstLow (s : State) (c : LongCmd) : (s.acceptLong c).rstLow = s.rstLow := rfl
@[simp] theorem State.acceptLong_resetCause (s : State) (c : LongCmd) :
    (s.acceptLong c).resetCause = s.resetCause := rfl
@[simp] theorem State.acceptLong_time (s : State) (c : LongCmd) : (s.acceptLong c).time = s.time := rfl
@[simp] theorem State.acceptLong_scanner (s : State) (c : LongCmd) : (s.acceptLong c).scanner = s.scanner := rfl
@[simp] theorem State.acceptLong_globals (s : State) (c : LongCmd) : (s.acceptLong c).globals = s.globals := rfl
@[simp] theorem State.acceptLong_chanCfg (s : State) (c : LongCmd) : (s.acceptLong c).chanCfg = s.chanCfg := rfl
@[simp] theorem State.acceptLong_chanLive (s : State) (c : LongCmd) : (s.acceptLong c).chanLive = s.chanLive := rfl
@[simp] theorem State.acceptLong_patDef (s : State) (c : LongCmd) : (s.acceptLong c).patDef = s.patDef := rfl
@[simp] theorem State.acceptLong_patState (s : State) (c : LongCmd) : (s.acceptLong c).patState = s.patState := rfl
@[simp] theorem State.acceptLong_poolFree (s : State) (c : LongCmd) : (s.acceptLong c).poolFree = s.poolFree := rfl
@[simp] theorem State.acceptLong_build (s : State) (c : LongCmd) : (s.acceptLong c).build = s.build := rfl
@[simp] theorem State.acceptLong_held (s : State) (c : LongCmd) : (s.acceptLong c).held = s.held := rfl
@[simp] theorem State.acceptLong_trackers (s : State) (c : LongCmd) : (s.acceptLong c).trackers = s.trackers := rfl
@[simp] theorem State.acceptLong_outCfg (s : State) (c : LongCmd) : (s.acceptLong c).outCfg = s.outCfg := rfl
@[simp] theorem State.acceptLong_outState (s : State) (c : LongCmd) : (s.acceptLong c).outState = s.outState := rfl
@[simp] theorem State.acceptLong_outLevel (s : State) (c : LongCmd) : (s.acceptLong c).outLevel = s.outLevel := rfl
@[simp] theorem State.acceptLong_report (s : State) (c : LongCmd) : (s.acceptLong c).report = s.report := rfl
@[simp] theorem State.acceptLong_flags (s : State) (c : LongCmd) : (s.acceptLong c).flags = s.flags := rfl
@[simp] theorem State.acceptLong_attnMask (s : State) (c : LongCmd) : (s.acceptLong c).attnMask = s.attnMask := rfl
@[simp] theorem State.acceptLong_engine (s : State) (c : LongCmd) :
    (s.acceptLong c).engine = { s.engine with
      status := .busy, result := .ok, detail := 0, inFlight := some c } := rfl
@[simp] theorem State.acceptLong_port (s : State) (c : LongCmd) : (s.acceptLong c).port = s.port := rfl
@[simp] theorem State.acceptLong_store (s : State) (c : LongCmd) : (s.acceptLong c).store = s.store := rfl

/-! ## `Recog.setPat` -/

@[simp] theorem Recog.setPat_pstate (w : Recog) (p : PatIdx) (st : PatState) :
    (w.setPat p st).pstate = w.pstate.set p st := rfl
@[simp] theorem Recog.setPat_trackers (w : Recog) (p : PatIdx) (st : PatState) :
    (w.setPat p st).trackers = w.trackers := rfl
@[simp] theorem Recog.setPat_held (w : Recog) (p : PatIdx) (st : PatState) : (w.setPat p st).held = w.held := rfl
@[simp] theorem Recog.setPat_outs (w : Recog) (p : PatIdx) (st : PatState) : (w.setPat p st).outs = w.outs := rfl
@[simp] theorem Recog.setPat_flags (w : Recog) (p : PatIdx) (st : PatState) : (w.setPat p st).flags = w.flags := rfl
@[simp] theorem Recog.setPat_offers (w : Recog) (p : PatIdx) (st : PatState) :
    (w.setPat p st).offers = w.offers := rfl
@[simp] theorem Recog.setPat_ended (w : Recog) (p : PatIdx) (st : PatState) : (w.setPat p st).ended = w.ended := rfl
@[simp] theorem Recog.setPat_claimed (w : Recog) (p : PatIdx) (st : PatState) :
    (w.setPat p st).claimed = w.claimed := rfl

/-! ## `Recog.setTracker` -/

@[simp] theorem Recog.setTracker_pstate (w : Recog) (t : SlotIdx) (x : Tracker) :
    (w.setTracker t x).pstate = w.pstate := rfl
@[simp] theorem Recog.setTracker_trackers (w : Recog) (t : SlotIdx) (x : Tracker) :
    (w.setTracker t x).trackers = w.trackers.set t x := rfl
@[simp] theorem Recog.setTracker_held (w : Recog) (t : SlotIdx) (x : Tracker) :
    (w.setTracker t x).held = w.held := rfl
@[simp] theorem Recog.setTracker_outs (w : Recog) (t : SlotIdx) (x : Tracker) :
    (w.setTracker t x).outs = w.outs := rfl
@[simp] theorem Recog.setTracker_flags (w : Recog) (t : SlotIdx) (x : Tracker) :
    (w.setTracker t x).flags = w.flags := rfl
@[simp] theorem Recog.setTracker_offers (w : Recog) (t : SlotIdx) (x : Tracker) :
    (w.setTracker t x).offers = w.offers := rfl
@[simp] theorem Recog.setTracker_ended (w : Recog) (t : SlotIdx) (x : Tracker) :
    (w.setTracker t x).ended = w.ended := rfl
@[simp] theorem Recog.setTracker_claimed (w : Recog) (t : SlotIdx) (x : Tracker) :
    (w.setTracker t x).claimed = w.claimed := rfl

/-! ## `Recog.setOut` -/

@[simp] theorem Recog.setOut_pstate (w : Recog) (o : OutIdx) (x : OutState) : (w.setOut o x).pstate = w.pstate := rfl
@[simp] theorem Recog.setOut_trackers (w : Recog) (o : OutIdx) (x : OutState) :
    (w.setOut o x).trackers = w.trackers := rfl
@[simp] theorem Recog.setOut_held (w : Recog) (o : OutIdx) (x : OutState) : (w.setOut o x).held = w.held := rfl
@[simp] theorem Recog.setOut_outs (w : Recog) (o : OutIdx) (x : OutState) :
    (w.setOut o x).outs = w.outs.set o x := rfl
@[simp] theorem Recog.setOut_flags (w : Recog) (o : OutIdx) (x : OutState) : (w.setOut o x).flags = w.flags := rfl
@[simp] theorem Recog.setOut_offers (w : Recog) (o : OutIdx) (x : OutState) : (w.setOut o x).offers = w.offers := rfl
@[simp] theorem Recog.setOut_ended (w : Recog) (o : OutIdx) (x : OutState) : (w.setOut o x).ended = w.ended := rfl
@[simp] theorem Recog.setOut_claimed (w : Recog) (o : OutIdx) (x : OutState) :
    (w.setOut o x).claimed = w.claimed := rfl

/-! ## `Recog.raise` -/

@[simp] theorem Recog.raise_pstate (w : Recog) (f : EventFlag) : (w.raise f).pstate = w.pstate := rfl
@[simp] theorem Recog.raise_trackers (w : Recog) (f : EventFlag) : (w.raise f).trackers = w.trackers := rfl
@[simp] theorem Recog.raise_held (w : Recog) (f : EventFlag) : (w.raise f).held = w.held := rfl
@[simp] theorem Recog.raise_outs (w : Recog) (f : EventFlag) : (w.raise f).outs = w.outs := rfl
@[simp] theorem Recog.raise_flags (w : Recog) (f : EventFlag) : (w.raise f).flags = raiseFlag f w.flags := rfl
@[simp] theorem Recog.raise_offers (w : Recog) (f : EventFlag) : (w.raise f).offers = w.offers := rfl
@[simp] theorem Recog.raise_ended (w : Recog) (f : EventFlag) : (w.raise f).ended = w.ended := rfl
@[simp] theorem Recog.raise_claimed (w : Recog) (f : EventFlag) : (w.raise f).claimed = w.claimed := rfl

/-! ## `Recog.offer` -/

@[simp] theorem Recog.offer_pstate (w : Recog) (r : Record) : (w.offer r).pstate = w.pstate := rfl
@[simp] theorem Recog.offer_trackers (w : Recog) (r : Record) : (w.offer r).trackers = w.trackers := rfl
@[simp] theorem Recog.offer_held (w : Recog) (r : Record) : (w.offer r).held = w.held := rfl
@[simp] theorem Recog.offer_outs (w : Recog) (r : Record) : (w.offer r).outs = w.outs := rfl
@[simp] theorem Recog.offer_flags (w : Recog) (r : Record) : (w.offer r).flags = w.flags := rfl
@[simp] theorem Recog.offer_offers (w : Recog) (r : Record) : (w.offer r).offers = w.offers ++ [r] := rfl
@[simp] theorem Recog.offer_ended (w : Recog) (r : Record) : (w.offer r).ended = w.ended := rfl
@[simp] theorem Recog.offer_claimed (w : Recog) (r : Record) : (w.offer r).claimed = w.claimed := rfl

/-! ## `State.recog` -/

@[simp] theorem State.recog_pstate (s : State) : (s.recog).pstate = s.patState := rfl
@[simp] theorem State.recog_trackers (s : State) : (s.recog).trackers = s.trackers := rfl
@[simp] theorem State.recog_held (s : State) : (s.recog).held = s.held := rfl
@[simp] theorem State.recog_outs (s : State) : (s.recog).outs = s.outState := rfl
@[simp] theorem State.recog_flags (s : State) : (s.recog).flags = s.flags := rfl
@[simp] theorem State.recog_offers (s : State) : (s.recog).offers = [] := rfl
@[simp] theorem State.recog_ended (s : State) : (s.recog).ended = 0 := rfl
@[simp] theorem State.recog_claimed (s : State) : (s.recog).claimed = 0 := rfl

end Sys2Proof.Machine
end

