-- ==== Sys2Proof/Laws/Ops.lean ====
section
/-! SUPPORT. One spec lemma for each shared operation: all that it can do. The provers cite these in place of the
definitions. -/

namespace Sys2Proof.Machine

/-! ## The queue -/

/-- R129 with room. -/
theorem State.push_room (s : State) (r : Record) (h : s.report.records.length < 32) :
    s.push r = { s with report := { s.report with records := s.report.records ++ [r] } } := by
  simp [State.push, Report.push, queueSize, h]

/-- R129 without room. -/
theorem State.push_full (s : State) (r : Record) (h : ¬ s.report.records.length < 32) :
    s.push r = { s with report := { s.report with lost := min (s.report.lost + 1) 255 }
                        flags := raiseFlag .queueLost s.flags } := by
  simp [State.push, Report.push, queueSize, h]

/-- `State.queued` is a push under a condition. -/
theorem State.queued_eq_push (s : State) (b : Bool) (r : Record) : s.queued b r = if b then s.push r else s := by
  cases b
  · rfl
  · by_cases h : s.report.records.length < 32
    · simp [State.queued, State.push, Report.push, queueSize, h]
    · simp [State.queued, State.push, Report.push, queueSize, h, raiseFlag, EventFlag.mask]

/-- R130: nothing offered. -/
@[simp] theorem State.takeOffers_nil (s : State) : s.takeOffers [] = s := rfl

/-- R130: the first offered record is pushed first. -/
@[simp] theorem State.takeOffers_cons (s : State) (r : Record) (l : List Record) :
    s.takeOffers (r :: l) = (s.push r).takeOffers l := rfl

/-- R130: offers made in two parts. -/
theorem State.takeOffers_append (s : State) (l m : List Record) :
    s.takeOffers (l ++ m) = (s.takeOffers l).takeOffers m := List.foldl_append

/-- R129, R130: pushes change the queue and the flags alone. -/
theorem State.takeOffers_frame (s : State) (l : List Record) :
    s.takeOffers l = { s with report := (s.takeOffers l).report, flags := (s.takeOffers l).flags } := by
  induction l generalizing s with
  | nil => rfl
  | cons r l ih => rw [State.takeOffers_cons, ih (s.push r)]; rfl

/-- R129, R130: what pushes do to the queue. -/
theorem State.takeOffers_report (s : State) (l : List Record) :
    (s.takeOffers l).report = l.foldl (fun q r => q.push r) s.report := by
  induction l generalizing s with
  | nil => rfl
  | cons r l ih => rw [State.takeOffers_cons, ih, List.foldl_cons, State.push_report]

/-- Work changes the changeable part of a state and the queue, and nothing else. -/
theorem State.work_frame (s : State) (f : Env → Recog → Recog) :
    s.work f = { s with patState := (s.work f).patState, trackers := (s.work f).trackers, held := (s.work f).held
                        outState := (s.work f).outState, report := (s.work f).report, flags := (s.work f).flags } := by
  unfold State.work
  rw [State.takeOffers_frame]
  rfl

/-- Work that offers at most one record and changes nothing else. -/
theorem State.work_offerIf (s : State) (b : Bool) (r : Record) :
    s.work (fun _ w => w.offerIf b r) = s.queued b r := by
  cases b
  · rfl
  · rw [State.queued_eq_push]; rfl

/-- R134: with nothing offered the pop stands alone. -/
theorem State.workWith_some_nil (s : State) (p : PopBetween) (f : Env → Recog → Recog)
    (h : (f s.env s.recog).offers = []) :
    s.workWith (some p) f = popByte p.byte (s.putRecog (f s.env s.recog)) := by
  simp [State.workWith, h]

/-- R129: the law of the queue survives a push. -/
theorem Report.push_law (q : Report) (r : Record) (h : q.Law) : (q.push r).Law := by
  obtain ⟨h1, h2, h3⟩ := h
  unfold Report.push
  by_cases h : q.records.length < queueSize
  · rw [if_pos h]
    refine ⟨by simp; omega, h2, fun hl => ?_⟩
    have := h3 hl
    omega
  · rw [if_neg h]
    exact ⟨h1, Nat.min_le_right _ _, fun _ => by simp only; omega⟩

/-- R132, R133: the law of the queue survives a pop. -/
theorem Report.pop_law (q : Report) (now : Time) (h : q.Law) : (q.pop now).Law := by
  obtain ⟨h1, h2, h3⟩ := h
  unfold Report.pop
  split
  · exact ⟨h1, h2, h3⟩
  · next heq =>
    rw [heq] at h1 h3
    simp only [List.length_cons] at h1 h3
    split
    · next h0 => exact ⟨by simp; omega, by simp; omega, fun hl => absurd h0 hl⟩
    · exact ⟨by simp; omega, by simp, fun hl => absurd rfl hl⟩

/-! ## Results -/

/-- R151: a posted result, from the state in which the byte of the command was acknowledged and taken. -/
theorem State.postResult_posted (s : State) (code : Byte) (r : Result) (d : Byte) :
    ({ s.acked with engine := { s.engine with cmd := code } } : State).postResult r d = s.posted code r d := rfl

/-- R152: an accepted long command, from the same state. -/
theorem State.acceptLong_accepted (s : State) (code : Byte) (c : LongCmd) :
    ({ s.acked with engine := { s.engine with cmd := code } } : State).acceptLong c = s.accepted code c := rfl

/-! ## Bytes of a write transaction -/

/-- R145: a data byte that reaches the register it is for. -/
theorem writeByteIf_hit {here : RegAddr → Bool} {act : State → State} {s : State} {a : RegAddr} (h : s.WritesAt a)
    (ha : here a = true) : writeByteIf here act s = act s.acked := by
  obtain ⟨hm, hb, hp⟩ := h
  subst hp
  simp [writeByteIf, State.present, hm, hb, ha]
  rfl

/-- R145: a data byte whose register pointer names another register changes nothing (log 4). -/
theorem writeByteIf_elsewhere {here : RegAddr → Bool} {act : State → State} {s : State} {a : RegAddr}
    (h : s.WritesAt a) (ha : here a = false) : writeByteIf here act s = s := by
  obtain ⟨hm, hb, hp⟩ := h
  subst hp
  simp [writeByteIf, State.present, hm, hb, ha]

/-- R147: while the port is absent a data byte is not acknowledged. -/
theorem writeByteIf_absent {here : RegAddr → Bool} {act : State → State} {s : State} (h : s.mode ≠ .running) :
    writeByteIf here act s = s.setAck false := by
  simp [writeByteIf, State.present, h]

/-- R145: all that a data byte can do. -/
theorem writeByteIf_cases (here : RegAddr → Bool) (act : State → State) (s : State) :
    (s.WritesAt s.port.pointer ∧ here s.port.pointer = true ∧ writeByteIf here act s = act s.acked)
      ∨ writeByteIf here act s = s ∨ writeByteIf here act s = s.setAck false := by
  by_cases hm : s.mode = .running
  · by_cases hb : s.port.bus = .writeData
    · by_cases ha : here s.port.pointer = true
      · exact .inl ⟨⟨hm, hb, rfl⟩, ha, writeByteIf_hit ⟨hm, hb, rfl⟩ ha⟩
      · exact .inr (.inl (writeByteIf_elsewhere ⟨hm, hb, rfl⟩ (by simpa using ha)))
    · refine .inr ?_
      simp only [writeByteIf, State.present, hm, beq_self_eq_true, Bool.not_true, Bool.false_eq_true, if_false]
      cases hx : s.port.bus <;> simp_all
  · exact .inr (.inr (writeByteIf_absent hm))

/-- R150: a byte written to CMD that is taken. -/
theorem cmdByte_takes {code : Byte} {work : State → State} {s : State} (h : s.Takes) :
    cmdByte code work s = work { s.acked with engine := { s.engine with cmd := code } } := by
  obtain ⟨hw, hf⟩ := h
  unfold cmdByte writeByteAt
  rw [writeByteIf_hit hw (by simp)]
  simp [takeCommand, hf]

/-- R153: a byte written to CMD while a long command is in flight. -/
theorem cmdByte_overrun {code : Byte} {work : State → State} {s : State} (h : s.WritesAt 0x0C#6)
    (hf : s.engine.inFlight.isSome = true) :
    cmdByte code work s = { s.acked with flags := s.flags ||| 0x02#6 } := by
  unfold cmdByte writeByteAt
  rw [writeByteIf_hit h (by simp)]
  simp [takeCommand, hf]
  rfl

/-- R150, R153: all that a byte written to CMD can do. -/
theorem cmdByte_cases (code : Byte) (work : State → State) (s : State) :
    (s.Takes ∧ cmdByte code work s = work { s.acked with engine := { s.engine with cmd := code } })
      ∨ (s.WritesAt 0x0C#6 ∧ s.engine.inFlight.isSome = true
          ∧ cmdByte code work s = { s.acked with flags := s.flags ||| 0x02#6 })
      ∨ cmdByte code work s = s ∨ cmdByte code work s = s.setAck false := by
  rcases writeByteIf_cases (· == 0x0C#6) (takeCommand code work) s with ⟨hw, ha, -⟩ | h | h
  · have hw' : s.WritesAt 0x0C#6 := by
      obtain ⟨h1, h2, -⟩ := hw
      exact ⟨h1, h2, by simpa using ha⟩
    cases hf : s.engine.inFlight with
    | none => exact .inl ⟨⟨hw', hf⟩, cmdByte_takes ⟨hw', hf⟩⟩
    | some x => exact .inr (.inl ⟨hw', by simp, cmdByte_overrun hw' (by simp [hf])⟩)
  · exact .inr (.inr (.inl h))
  · exact .inr (.inr (.inr h))

/-! ## Index arguments -/

/-- An argument byte that holds an index. -/
theorem indexOf_ofNat {n : Nat} (i : Fin n) (h : n ≤ 256) : indexOf n (BitVec.ofNat 8 i.val) = some i := by
  have hi : (BitVec.ofNat 8 i.val).toNat = i.val := by
    rw [BitVec.toNat_ofNat]
    exact Nat.mod_eq_of_lt (by omega)
  simp only [indexOf, hi, i.isLt, dif_pos]

/-- An argument byte beyond the table. -/
theorem indexOf_none {n : Nat} {b : Byte} (h : n ≤ b.toNat) : indexOf n b = none := by
  simp [indexOf]; omega

/-- R48 to R57: a command whose ARG0 names pattern `p`. -/
theorem State.onPattern_ofNat {s : State} {p : PatIdx} (f : PatIdx → State → State)
    (h : s.engine.arg0 = BitVec.ofNat 8 p.val) : s.onPattern f = f p s := by
  simp only [State.onPattern, h, indexOf_ofNat p (by decide)]

/-- R48 to R57: a command whose ARG0 names no pattern. -/
theorem State.onPattern_none {s : State} (f : PatIdx → State → State) (h : 24 ≤ s.engine.arg0.toNat) :
    s.onPattern f = s.postResult .badIndex 0 := by
  simp only [State.onPattern, indexOf_none h]

/-! ## Sets -/

/-- Membership in the set that holds one channel. -/
theorem hasChan_chanBit (c d : Chan) : hasChan (chanBit c) d = decide (c = d) := by
  revert c d; decide

/-- Membership in a union. -/
theorem hasChan_or (a b : ChanSet) (c : Chan) : hasChan (a ||| b) c = (hasChan a c || hasChan b c) := by
  simp [hasChan]

/-- Membership in a difference. -/
theorem hasChan_sdiff (a b : ChanSet) (c : Chan) : hasChan (a &&& ~~~b) c = (hasChan a c && !hasChan b c) := by
  simp [hasChan]

/-- Membership in the set that holds one pattern. -/
theorem hasPat_patBit (p q : PatIdx) : hasPat (patBit p) q = decide (p = q) := by
  revert p q; decide

/-- Membership in a union. -/
theorem hasPat_or (a b : PatSet) (p : PatIdx) : hasPat (a ||| b) p = (hasPat a p || hasPat b p) := by
  simp [hasPat]

/-- Membership in a difference. -/
theorem hasPat_sdiff (a b : PatSet) (p : PatIdx) : hasPat (a &&& ~~~b) p = (hasPat a p && !hasPat b p) := by
  simp [hasPat]

/-! ## Results -/

/-- R15, R16: the two first steps of a result. -/
theorem countSaturation_takeRaw (l : ChanLive) (raw : Fin 4096) :
    countSaturation (takeRaw raw.val l) = l.counted raw := by
  unfold countSaturation takeRaw ChanLive.counted
  dsimp only
  split
  · split <;> simp [*]
  · simp [*]

/-! ## Synthetic releases -/

/-- R2: a duration. -/
theorem duration_eq (a b : Time) : duration a b = BitVec.ofNat 16 (min (b - a).toNat 65535) := by
  unfold duration elapsed
  split
  · rw [Nat.min_eq_right (by omega)]; rfl
  · rw [Nat.min_eq_left (by omega)]

/-- R8, R31, R34: a channel that a command takes out of PRESSED or RELEASING enters `target`, and its release is handed
on. -/
theorem State.chanStep_leaveTo (s : State) (target : ChanState) (cause : Cause) (c : Chan) (hc : cause ≠ .stuck)
    (hd : s.chanLive[c].state.isDown = true) :
    s.chanStep none c (leaveTo target cause c s.time s.chanLive[c])
      = (s.setLive c (enterCleared target s.chanLive[c])).releasedFor cause c := by
  have hp : (s.setLive c (enterCleared target s.chanLive[c])).chanLive[c].pressTime = s.chanLive[c].pressTime := by
    simp [enterCleared]
  unfold State.chanStep leaveTo State.releasedFor State.workWith
  rw [if_pos hd, hp]
  refine congrArg (State.work _) (funext fun e => funext fun w => ?_)
  simp only [handAll, List.foldl_cons, List.foldl_nil, handNotice, handOn, eventRecord, syntheticRelease,
    duration_eq, Bool.false_eq_true, if_false, if_neg hc, Recog.offerIf, shortTime, State.setLive_time,
    State.setLive_chanCfg]
  rfl

end Sys2Proof.Machine
end

