-- ==== Sys2Proof/Laws/Matcher.lean ====
section
/-! SUPPORT. What the matcher can do, said once. A property of the changeable state that the few primitive changes
keep (`EndClosed`, `EventClosed`) is kept by every completion, cascade, due time and event. -/

namespace Sys2Proof.Machine

/-! ## One tracker's progress -/

/-- The record that a progress leaves in its slot. -/
def Progress.record (p : Progress) : Waiting :=
  match p with
  | .stay w | .candidate w _ | .abort w _ _ => w

/-- What every progress of a tracker keeps: pattern, START_TIME, OVERALL_DUE, and a step below `n`. -/
structure Waiting.Moves (n : Nat) (x y : Waiting) : Prop where
  pattern : y.pattern = x.pattern
  startTime : y.startTime = x.startTime
  overallDue : y.overallDue = x.overallDue
  step : x.step < n → y.step < n
  forward : x.step ≤ y.step

theorem Waiting.Moves.refl (n : Nat) (x : Waiting) : x.Moves n x := ⟨rfl, rfl, rfl, id, Nat.le_refl _⟩

theorem Waiting.Moves.trans {n : Nat} {x y z : Waiting} (h : x.Moves n y) (k : y.Moves n z) : x.Moves n z :=
  ⟨k.pattern.trans h.pattern, k.startTime.trans h.startTime, k.overallDue.trans h.overallDue,
    fun hx => k.step (h.step hx), Nat.le_trans h.forward k.forward⟩

/-- A record that differs only in what a step collects. -/
theorem Waiting.Moves.of_eq {n : Nat} {x y : Waiting} (hp : y.pattern = x.pattern) (ht : y.startTime = x.startTime)
    (ho : y.overallDue = x.overallDue) (hs : y.step = x.step) : x.Moves n y :=
  ⟨hp, ht, ho, fun h => hs ▸ h, Nat.le_of_eq hs.symm⟩

/-- The record of a view. -/
def View.record (v : View) : Waiting :=
  match v with
  | .waits w | .satisfied w | .lost w => w

/-- R68, step 4: the initial view keeps everything but what the step collects. -/
theorem initialView_record (x : Step) (held : ChanSet) (t0 : Time) (w : Waiting) :
    (initialView x held t0 w).record.pattern = w.pattern ∧ (initialView x held t0 w).record.startTime = w.startTime
      ∧ (initialView x held t0 w).record.overallDue = w.overallDue
      ∧ (initialView x held t0 w).record.step = w.step := by
  unfold initialView
  split
  · dsimp only
    split
    · exact ⟨rfl, rfl, rfl, rfl⟩
    · split <;> exact ⟨rfl, rfl, rfl, rfl⟩
  · exact ⟨rfl, rfl, rfl, rfl⟩
  · split <;> exact ⟨rfl, rfl, rfl, rfl⟩
  · split <;> exact ⟨rfl, rfl, rfl, rfl⟩
  · exact ⟨rfl, rfl, rfl, rfl⟩

/-- R68, R69: steps entered one after another leave the tracker on one of them, or where it was if there is none. -/
theorem enterSteps_record (held : ChanSet) (t0 : Time) (steps : List Step) (idx : Nat) (w : Waiting) :
    let r := (enterSteps held t0 steps idx w).record
    r.pattern = w.pattern ∧ r.startTime = w.startTime ∧ r.overallDue = w.overallDue
      ∧ (r.step = w.step ∨ idx ≤ r.step ∧ r.step < idx + steps.length) := by
  induction steps generalizing idx w with
  | nil => exact ⟨rfl, rfl, rfl, .inl rfl⟩
  | cons x rest ih =>
    obtain ⟨h1, h2, h3, h4⟩ := initialView_record x held t0 (w.onStep idx t0)
    have here : ∀ r : Waiting, r = (initialView x held t0 (w.onStep idx t0)).record →
        r.pattern = w.pattern ∧ r.startTime = w.startTime ∧ r.overallDue = w.overallDue ∧ r.step = idx := by
      intro r hr
      subst hr
      exact ⟨h1, h2, h3, h4⟩
    simp only [enterSteps]
    cases hv : initialView x held t0 (w.onStep idx t0) with
    | waits w' =>
      obtain ⟨a, b, c, d⟩ := here w' (by rw [hv]; rfl)
      exact ⟨a, b, c, .inr (by simp only [Progress.record, List.length_cons, d]; omega)⟩
    | lost w' =>
      obtain ⟨a, b, c, d⟩ := here w' (by rw [hv]; rfl)
      exact ⟨a, b, c, .inr (by simp only [Progress.record, List.length_cons, d]; omega)⟩
    | satisfied w' =>
      obtain ⟨a, b, c, d⟩ := here w' (by rw [hv]; rfl)
      dsimp only
      split
      · obtain ⟨i1, i2, i3, i4⟩ := ih (idx + 1) w'
        refine ⟨i1.trans a, i2.trans b, i3.trans c, .inr ?_⟩
        simp only [List.length_cons]
        omega
      · exact ⟨a, b, c, .inr (by simp only [Progress.record, List.length_cons, d]; omega)⟩

/-- R69: the tracker of a satisfied step moves forward within its pattern. -/
theorem advance_moves (d : PatDef) (held : ChanSet) (t : Time) (w : Waiting) :
    w.Moves d.steps.length (advance d held t w).record := by
  obtain ⟨h1, h2, h3, h4⟩ := enterSteps_record held t (d.steps.drop (w.step + 1)) (w.step + 1) w
  have hl : (d.steps.drop (w.step + 1)).length = d.steps.length - (w.step + 1) := List.length_drop
  refine ⟨h1, h2, h3, fun _ => ?_, ?_⟩ <;> (simp only [advance] at *; omega)

/-- R88: a tracker that an event is offered to moves forward within its pattern. -/
theorem offerEvent_moves (d : PatDef) (held : ChanSet) (ev : Event) (w : Waiting) :
    w.Moves d.steps.length (offerEvent d held ev w).record := by
  have same := Waiting.Moves.refl d.steps.length w
  have unex : ∀ j, w.Moves d.steps.length (unexpected d j w).record := by
    intro j; unfold unexpected; split <;> exact same
  unfold offerEvent
  dsimp only
  split
  · split
    · exact same
    · next x _ =>
      split
      · unfold onPress
        split
        · split
          · split
            · exact same
            · have coll : ∀ y : Waiting, y.pattern = w.pattern → y.startTime = w.startTime →
                  y.overallDue = w.overallDue → y.step = w.step → w.Moves d.steps.length
                    (if y.collected = x.channels then advance d held (judgedTime ev.time w.stepStart) y
                      else .stay y).record := by
                intro y a b c s
                split
                · exact (Waiting.Moves.of_eq a b c s).trans (advance_moves ..)
                · exact Waiting.Moves.of_eq a b c s
              dsimp only
              apply coll <;> split <;> rfl
          · exact unex _
        · split
          · split
            · exact same
            · exact .of_eq rfl rfl rfl rfl
          · exact unex _
        · exact unex _
        · exact unex _
        · split
          · exact same
          · exact unex _
      · unfold onRelease
        split
        · split <;> exact same
        · split
          · exact advance_moves ..
          · exact same
        · split <;> exact same
        · split
          · split
            · exact same
            · exact advance_moves ..
          · exact same
        · exact same
  · split <;> exact same

/-- R86: a tracker whose due time is taken moves forward within its pattern. -/
theorem takeStepDue_moves (d : PatDef) (held : ChanSet) (k : DueKind) (t : Time) (w : Waiting) :
    w.Moves d.steps.length (takeStepDue d held k t w).record := by
  cases k <;> first | exact Waiting.Moves.refl .. | exact advance_moves ..

/-- R67: a start moves the new tracker forward within its pattern. -/
theorem startProgress_moves (d : PatDef) (held : ChanSet) (p : PatIdx) (t : Time) :
    (newWaiting d p t).Moves d.steps.length (startProgress d held p t).record := by
  have enter : ∀ x rest, d.steps = x :: rest → (newWaiting d p t).Moves d.steps.length
      (enterSteps held t d.steps 0 (newWaiting d p t)).record := by
    intro x rest hs
    obtain ⟨h1, h2, h3, h4⟩ := enterSteps_record held t d.steps 0 (newWaiting d p t)
    have h0 : (newWaiting d p t).step = 0 := rfl
    exact ⟨h1, h2, h3, fun _ => by rw [hs] at *; simp only [List.length_cons] at *; omega, by omega⟩
  unfold startProgress
  dsimp only
  split
  · exact Waiting.Moves.refl ..
  · next x rest hs =>
    split
    · split
      · exact Waiting.Moves.trans (y := { newWaiting d p t with collected := x.channels &&& held, chordStart := some t })
          (.of_eq rfl rfl rfl rfl) (advance_moves ..)
      · exact .of_eq rfl rfl rfl rfl
    · exact .of_eq rfl rfl rfl rfl
    all_goals exact enter x rest hs

/-! ## Priority-then-index order -/

/-- Every pattern has its place in priority-then-index order. -/
theorem Env.mem_patOrder (e : Env) (p : PatIdx) : p ∈ e.patOrder := by
  simp [Env.patOrder, allPats]

/-- `patOrder` is in priority-then-index order. -/
theorem Env.patOrder_pairwise (e : Env) : e.patOrder.Pairwise e.RanksBefore := by
  refine List.pairwise_flatMap.2 ⟨fun pr _ => ?_, ?_⟩
  · refine (List.Pairwise.filter _ (by decide : allPats.Pairwise (· < ·))).imp_of_mem fun {p q} hp hq h => .inr ⟨?_, h⟩
    exact (of_decide_eq_true (List.mem_filter.1 hq).2).trans (of_decide_eq_true (List.mem_filter.1 hp).2).symm
  · refine (by decide : (List.finRange 8).reverse.Pairwise (fun a b => b < a)).imp fun {a b} h p hp q hq => .inl ?_
    have hp := of_decide_eq_true (List.mem_filter.1 hp).2
    have hq := of_decide_eq_true (List.mem_filter.1 hq).2
    exact (show e.prio q < e.prio p from hp ▸ hq ▸ h)

/-- `slotOrder` lists the slots in use. -/
theorem mem_slotOrder (e : Env) (trackers : Vector Tracker 6) (t : SlotIdx) :
    t ∈ slotOrder e trackers ↔ trackers[t].pattern ≠ none := by
  simp only [slotOrder, List.mem_flatMap, List.mem_filter, beq_iff_eq, Option.ne_none_iff_exists']
  exact ⟨fun ⟨p, _, _, h⟩ => ⟨p, h⟩, fun ⟨p, h⟩ => ⟨p, e.mem_patOrder p, List.mem_finRange t, h⟩⟩

/-- No two patterns come each before the other. -/
theorem Env.ranksBefore_asymm {e : Env} {p q : PatIdx} (h : e.RanksBefore p q) : ¬ e.RanksBefore q p := by
  rintro (k | ⟨k, l⟩) <;> rcases h with h | ⟨h, m⟩
  · exact lt_asymm h k
  · exact absurd k (h ▸ lt_irrefl _)
  · exact absurd h (k ▸ lt_irrefl _)
  · exact lt_asymm l m

/-- `slotOrder` is in priority-then-index order of the bound patterns, and in slot order within one pattern. -/
theorem slotOrder_pairwise (e : Env) (trackers : Vector Tracker 6) : (slotOrder e trackers).Pairwise fun t u =>
    e.SlotBefore trackers t u ∨ t < u ∧ trackers[t].pattern = trackers[u].pattern := by
  refine List.pairwise_flatMap.2 ⟨fun p _ => ?_, e.patOrder_pairwise.imp fun {p q} h t ht u hu => .inl ?_⟩
  · refine (List.Pairwise.filter _ (by decide : allSlots.Pairwise (· < ·))).imp_of_mem fun {t u} ht hu h => .inr ⟨h, ?_⟩
    rw [eq_of_beq (List.mem_filter.1 ht).2, eq_of_beq (List.mem_filter.1 hu).2]
  · exact ⟨p, eq_of_beq (List.mem_filter.1 ht).2, q, eq_of_beq (List.mem_filter.1 hu).2, h⟩

/-- Lists of the same slots in priority-then-index order are equal. -/
theorem slots_sorted {e : Env} {trackers : Vector Tracker 6} {l m : List SlotIdx}
    (hl : l.Pairwise (e.SlotBefore trackers)) (hm : m.Pairwise (e.SlotBefore trackers)) (h : ∀ t, t ∈ l ↔ t ∈ m) : l = m := by
  have asymm : ∀ t u, e.SlotBefore trackers t u → ¬ e.SlotBefore trackers u t := by
    rintro t u ⟨p, hp, q, hq, h⟩ ⟨q', hq', p', hp', h'⟩
    obtain rfl := Option.mem_unique hp hp'
    obtain rfl := Option.mem_unique hq hq'
    exact e.ranksBefore_asymm h h'
  have nodup : ∀ {k : List SlotIdx}, k.Pairwise (e.SlotBefore trackers) → k.Nodup := fun hk =>
    hk.imp fun {t u} h (he : t = u) => asymm t u h (he ▸ h)
  exact ((List.perm_ext_iff_of_nodup (nodup hl) (nodup hm)).2 h).eq_of_pairwise
    (fun t u _ _ h h' => absurd h' (asymm t u h)) hl hm

/-- R89, R99: a list of slots in priority-then-index order is what `slotOrder` picks of them. -/
theorem filter_slotOrder {e : Env} {trackers : Vector Tracker 6} {f : SlotIdx → Bool} {order : List SlotIdx}
    (h : ∀ t, t ∈ order ↔ trackers[t].pattern ≠ none ∧ f t = true) (k : order.Pairwise (e.SlotBefore trackers)) :
    (slotOrder e trackers).filter f = order := by
  have mem : ∀ t, t ∈ (slotOrder e trackers).filter f ↔ t ∈ order := fun t => by
    rw [List.mem_filter, mem_slotOrder, h]
  refine slots_sorted ?_ k mem
  refine ((slotOrder_pairwise e trackers).filter f).imp_of_mem fun {t u} ht hu hr => hr.resolve_right fun ⟨hlt, he⟩ => ?_
  have one : ∀ {x y}, e.SlotBefore trackers x y → trackers[x].pattern ≠ trackers[y].pattern := by
    rintro x y ⟨p, hp, q, hq, hb⟩ hxy
    obtain rfl := Option.mem_unique hp (hxy ▸ hq)
    exact Env.ranksBefore_asymm hb hb
  rcases List.pairwise_iff_getElem.1 k with hk
  obtain ⟨i, hi, rfl⟩ := List.getElem_of_mem ((mem t).1 ht)
  obtain ⟨j, hj, rfl⟩ := List.getElem_of_mem ((mem u).1 hu)
  rcases lt_trichotomy i j with hij | rfl | hij
  · exact one (hk i j hi hj hij) he
  · exact lt_irrefl _ hlt
  · exact one (hk j i hj hi hij) he.symm

/-! ## Endings and completions -/

/-- A property that the endings and completions of trackers keep. -/
structure EndClosed (e : Env) (P : Recog → Prop) : Prop where
  ends : ∀ t reason time st w, (st = .ready ∨ st = .disabled) → P w → P (endSlot e t reason time st w)
  completes : ∀ t p te deferred time w, w.trackers[t].pattern = some p → P w →
    P (completeSlot e t p te deferred time w)
  unblocks : ∀ gone w, P w → P { w with trackers := Vector.ofFn fun t => unblock gone w.trackers[t] }
  claims : ∀ univ w, P w → P { w with claimed := univ }

theorem foldl_keeps {α β : Type} {P : β → Prop} (f : β → α → β) (hf : ∀ b a, P b → P (f b a)) (l : List α) (b : β)
    (h : P b) : P (l.foldl f b) := by
  induction l generalizing b with
  | nil => exact h
  | cons a l ih => exact ih _ (hf b a h)

theorem releaseBy_keeps {e : Env} {P : Recog → Prop} (hu : ∀ gone w, P w →
    P { w with trackers := Vector.ofFn fun t => unblock gone w.trackers[t] }) (gone : PatSet)
    (finish : SlotIdx → Recog → Recog) (hf : ∀ t w, P w → P (finish t w)) (w : Recog) (h : P w) :
    P (releaseBy e gone finish w) := by
  refine foldl_keeps _ (fun v t hv => ?_) _ _ (hu gone w h)
  split
  · exact hf t v hv
  · exact hv

theorem EndClosed.cancelGroup {e : Env} {P : Recog → Prop} (c : EndClosed e P) (group : List SlotIdx)
    (reason : Reason) (time : Time) (w : Recog) (h : P w) : P (cancelGroup e group reason time w) :=
  foldl_keeps _ (fun v t hv => c.ends t reason time .ready v (.inl rfl) hv) _ _ h

/-- R94 to R101: a completion with all that follows from it. -/
theorem EndClosed.complete {e : Env} {P : Recog → Prop} (c : EndClosed e P) (n : Nat) (t : SlotIdx) (te : Time)
    (deferred : Bool) (time : Time) (w : Recog) (h : P w) : P (complete e n t te deferred time w) := by
  induction n generalizing t te deferred w with
  | zero => exact h
  | succ n ih =>
    simp only [Machine.complete]
    split
    · exact h
    · next p hp =>
      have h3 := c.completes t p te deferred time w hp h
      split
      · exact releaseBy_keeps c.unblocks _ _ (fun u v hv => ih u _ _ v hv) _
          (c.cancelGroup _ _ _ _ (c.claims _ _ h3))
      · exact releaseBy_keeps c.unblocks _ _ (fun u v hv => ih u _ _ v hv) _ h3

/-- R80: an ending with all that follows from it. -/
theorem EndClosed.endTracker {e : Env} {P : Recog → Prop} (c : EndClosed e P) (t : SlotIdx) (reason : Reason)
    (time : Time) (st : PatState) (w : Recog) (hs : st = .ready ∨ st = .disabled) (h : P w) :
    P (endTracker e t reason time st w) := by
  unfold Machine.endTracker
  split
  · exact h
  · exact releaseBy_keeps c.unblocks _ _ (fun u v hv => c.complete _ _ _ _ _ v hv) _ (c.ends _ _ _ _ _ hs h)

/-- R80: an ending of the tracker in a FREE slot does nothing. -/
theorem endSlot_free (e : Env) (t : SlotIdx) (reason : Reason) (time : Time) (st : PatState) (w : Recog)
    (h : w.trackers[t].pattern = none) : endSlot e t reason time st w = w := by
  unfold endSlot; rw [h]

/-! ## Events and due times -/

/-- A property that events and due times keep as well. -/
structure EventClosed (e : Env) (P : Recog → Prop) : Prop extends EndClosed e P where
  moves : ∀ t x y w, w.trackers[t] = .waiting x → x.Moves (e.pat x.pattern).steps.length y → P w →
    P (w.setTracker t (.waiting y))
  pends : ∀ t x te w, w.trackers[t] = .waiting x → blockersOf e x.pattern w.trackers ≠ 0 → P w →
    P (w.setTracker t (.pending (x.toPending te (blockersOf e x.pattern w.trackers))))
  starts : ∀ t p time w w0, w.trackers[t] = .free → P w → P w0 → w0.pstate[p] = .ready →
    (w = w0 ∨ ∃ v, w = endTracker e v .evicted time .ready w0) →
    P ((w.setTracker t (.waiting (newWaiting (e.pat p) p time))).setPat p .active)
  refuses : ∀ p time w, P w → P (refuseStart e p time w)
  held : ∀ ev w, P w → P (stage2 e ev w)
  begins : ∀ w, P w → P { w with ended := 0, claimed := 0 }

variable {e : Env} {P : Recog → Prop}

theorem EventClosed.resolve (c : EventClosed e P) (t : SlotIdx) (te : Time) (w : Recog) (h : P w) :
    P (resolve e t te w) := by
  unfold Machine.resolve
  split
  · next x hx =>
    dsimp only
    split
    · next hb =>
      refine c.pends t x te w hx (fun h0 => ?_) h
      simp [h0] at hb
    · exact c.complete _ _ _ _ _ w h
  · exact h
  · exact h

/-- R86, R90: whatever a progress made of a WAITING tracker is settled. -/
theorem EventClosed.settle (c : EventClosed e P) (t : SlotIdx) (x : Waiting) (p : Progress) (w : Recog)
    (hx : w.trackers[t] = .waiting x) (hp : x.Moves (e.pat x.pattern).steps.length p.record) (h : P w) :
    P (settle e t p w) := by
  cases p with
  | stay y => exact c.moves t x y w hx hp h
  | candidate y te => exact c.resolve t te _ (c.moves t x y w hx hp h)
  | abort y reason time => exact c.endTracker t reason time .ready _ (.inl rfl) (c.moves t x y w hx hp h)

theorem EventClosed.takeDue (c : EventClosed e P) (d : Due) (w : Recog) (h : P w) : P (takeDue e d w) := by
  unfold Machine.takeDue
  split
  · next x hx =>
    split
    · exact c.endTracker _ _ _ _ _ (.inl rfl) h
    · exact c.settle _ x _ w hx (takeStepDue_moves ..) h
  · exact h
  · exact h

theorem EventClosed.takeDues (c : EventClosed e P) (t : Time) (n : Nat) (w : Recog) (h : P w) :
    P (takeDues e t n w) := by
  induction n generalizing w with
  | zero => exact h
  | succ n ih =>
    unfold Machine.takeDues
    split
    · exact h
    · exact ih _ (c.takeDue _ w h)

theorem EventClosed.offerSlot (c : EventClosed e P) (ev : Event) (acc : Recog × List (SlotIdx × Time)) (t : SlotIdx)
    (h : P acc.1) : P (offerSlot e ev acc t).1 := by
  unfold Machine.offerSlot
  split
  · next x hx =>
    have hm := offerEvent_moves (e.pat x.pattern) acc.1.held ev x
    split
    · next y hy => rw [hy] at hm; exact c.moves t x y _ hx hm h
    · next y te hy => rw [hy] at hm; exact c.moves t x y _ hx hm h
    · next y r j hy =>
      rw [hy] at hm
      exact c.endTracker _ _ _ _ _ (.inl rfl) (c.moves t x y _ hx hm h)
  · exact h
  · exact h

theorem EventClosed.stage3 (c : EventClosed e P) (ev : Event) (w : Recog) (h : P w) : P (stage3 e ev w).1 :=
  foldl_keeps (P := fun acc : Recog × List (SlotIdx × Time) => P acc.1) _ (fun acc t ha => c.offerSlot ev acc t ha) _ _
    h

theorem EventClosed.stage4 (c : EventClosed e P) (cands : List (SlotIdx × Time)) (w : Recog) (h : P w) :
    P (stage4 e cands w) := by
  refine foldl_keeps _ (fun v t hv => ?_) _ _ h
  split
  · exact hv
  · exact c.resolve _ _ v hv

/-- A slot that `freeSlot` answers is FREE. -/
theorem freeSlot_free {trackers : Vector Tracker 6} {t : SlotIdx} (h : freeSlot trackers = some t) :
    trackers[t] = .free := by
  have := List.find?_some h
  cases ht : trackers[t] <;> simp_all [Tracker.isFree]

theorem EventClosed.startIn (c : EventClosed e P) (p : PatIdx) (time : Time) (t : SlotIdx) (w w0 : Recog)
    (ht : w.trackers[t] = .free) (h : P w) (h0 : P w0) (hr : w0.pstate[p] = .ready)
    (hw : w = w0 ∨ ∃ v, w = Machine.endTracker e v .evicted time .ready w0) : P (startIn e p time t w) := by
  refine c.settle t (newWaiting (e.pat p) p time) _ _ ?_ (startProgress_moves ..) (c.starts t p time w w0 ht h h0 hr hw)
  simp

theorem EventClosed.takeStart (c : EventClosed e P) (p : PatIdx) (time : Time) (w : Recog) (hr : w.pstate[p] = .ready)
    (h : P w) : P (takeStart e p time w) := by
  unfold Machine.takeStart
  split
  · next t ht => exact c.startIn p time t w w (freeSlot_free ht) h h hr (.inl rfl)
  · split
    · exact c.refuses p time w h
    · next v _ =>
      have h1 := c.endTracker v .evicted time .ready w (.inl rfl) h
      dsimp only
      split
      · exact h1
      · split
        · next t ht => exact c.startIn p time t _ w (freeSlot_free ht) h1 h hr (.inr ⟨v, rfl⟩)
        · exact h1

theorem EventClosed.stage5 (c : EventClosed e P) (ev : Event) (w : Recog) (h : P w) : P (stage5 e ev w) := by
  unfold Machine.stage5
  split
  · refine foldl_keeps _ (fun v p hv => ?_) _ _ h
    split
    · next ho =>
      simp only [offered, Bool.and_eq_true, beq_iff_eq] at ho
      exact c.takeStart p _ v ho.1.1.1 hv
    · exact hv
  · exact h

/-- R87 to R90: one event. -/
theorem EventClosed.matchEvent (c : EventClosed e P) (ev : Event) (w : Recog) (h : P w) : P (matchEvent e ev w) :=
  c.stage5 ev _ (c.stage4 _ _ (c.stage3 ev _ (c.held ev _ (c.takeDues _ _ _ (c.begins w h)))))

/-! ## Events with no tracker in use -/

theorem foldl_same {α β : Type} (f : β → α → β) (l : List α) (b : β) (h : ∀ a, f b a = b) : l.foldl f b = b := by
  induction l with
  | nil => rfl
  | cons a l ih => rw [List.foldl_cons, h a, ih]

theorem takeDues_none (e : Env) (t : Time) (n : Nat) (w : Recog) (h : nextDue e t w = none) : takeDues e t n w = w := by
  cases n with
  | zero => rfl
  | succ n => rw [Machine.takeDues, h]

theorem nextDue_noTracker (e : Env) (t : Time) (w : Recog) (h : ∀ u : SlotIdx, w.trackers[u] = .free) :
    nextDue e t w = none := by
  have h0 : ∀ u, slotDues t w.trackers u = [] := fun u => by rw [slotDues, h u]
  unfold nextDue
  rw [show allSlots.flatMap (slotDues t w.trackers) = [] by simp [h0]]
  rfl

theorem stage3_noTracker (e : Env) (ev : Event) (w : Recog) (h : ∀ u : SlotIdx, w.trackers[u] = .free) :
    stage3 e ev w = (w, []) :=
  foldl_same _ _ _ fun u => by rw [Machine.offerSlot, h u]

theorem stage4_nil (e : Env) (w : Recog) : stage4 e [] w = w := foldl_same _ _ _ fun _ => rfl

theorem stage5_noneReady (e : Env) (ev : Event) (w : Recog) (h : ev.press = true → ∀ p : PatIdx, w.pstate[p] ≠ .ready) :
    stage5 e ev w = w := by
  unfold Machine.stage5
  split
  · next hp =>
    refine foldl_same _ _ _ fun p => ?_
    rw [if_neg]
    have := h hp p
    simp only [Fin.getElem_fin] at this
    simp [offered, this]
  · rfl

theorem stage2_trackers (e : Env) (ev : Event) (w : Recog) : (stage2 e ev w).trackers = w.trackers := by
  unfold stage2; split <;> rfl

/-- R87 to R90 with no tracker in use and, for a press, no pattern READY: the held set and the unlocks alone. -/
theorem matchEvent_noTracker (e : Env) (ev : Event) (w : Recog) (h : ∀ u : SlotIdx, w.trackers[u] = .free)
    (hr : ev.press = true → ∀ p : PatIdx, w.pstate[p] ≠ .ready) :
    matchEvent e ev w = stage2 e ev { w with ended := 0, claimed := 0 } := by
  have h1 : stage1 e ev { w with ended := 0, claimed := 0 } = { w with ended := 0, claimed := 0 } :=
    takeDues_none _ _ _ _ (nextDue_noTracker e ev.time _ h)
  have h3 := stage3_noTracker e ev (stage2 e ev { w with ended := 0, claimed := 0 })
    (fun u => by rw [stage2_trackers]; exact h u)
  unfold Machine.matchEvent
  simp only [h1, h3, stage4_nil]
  refine stage5_noneReady _ _ _ fun hp p => ?_
  have : (stage2 e ev { w with ended := 0, claimed := 0 }).pstate = w.pstate := by simp [stage2, hp]
  rw [this]
  exact hr hp p

/-- R83: a due time taken at the current time. -/
theorem EventClosed.nextDueTaken (c : EventClosed e P) (t : Time) (w : Recog) (h : P w) :
    P (match nextDue e t w with
      | none => w
      | some d => Machine.takeDue e d w) := by
  split
  · exact h
  · exact c.takeDue _ w h

/-- R108: a flush. -/
theorem EndClosed.flushWork (c : EndClosed e P) (w : Recog) (h : P w) : P (flushWork e w) := by
  unfold Machine.flushWork
  refine foldl_keeps _ (fun v t hv => ?_) _ _ ?_
  · split
    · exact c.endTracker t .cancelled _ .ready v (.inl rfl) hv
    · exact hv
  · exact releaseBy_keeps c.unblocks _ _ (fun u v hv => c.complete _ _ _ _ _ v hv) _ (c.cancelGroup _ _ _ _ h)

end Sys2Proof.Machine
end

