-- ==== Sys2Proof/Laws/Operands.lean ====
section
/-! SUPPORT. What the codecs of the record buffer and of the report queue do, said once: the bytes of each item as
`leBytes`, a filled buffer as `recordOf`, and a judged record by its lowest-numbered failing check. -/

namespace Sys2Proof.Machine

/-! ## Items as bytes (section 10.1) -/

/-- One byte. -/
theorem leBytes_one (n : Nat) : leBytes 1 n = [BitVec.ofNat 8 n] := by simp [leBytes, List.range, List.range.loop]

/-- Two bytes. -/
theorem leBytes_two (n : Nat) : leBytes 2 n = [BitVec.ofNat 8 n, BitVec.ofNat 8 (n / 256)] := by
  simp [leBytes, List.range, List.range.loop]

/-- Two bytes keep a number modulo 2^16. -/
theorem leBytes_two_mod (n : Nat) : leBytes 2 (n % 65536) = leBytes 2 n := by
  simp only [leBytes_two, List.cons.injEq, and_true]
  constructor
  · apply BitVec.eq_of_toNat_eq; simp
  · apply BitVec.eq_of_toNat_eq; simp; omega

/-- A 16-bit value. -/
theorem bytes16_eq (x : Short) : bytes16 x = leBytes 2 x.toNat := by
  simp only [bytes16, leBytes_two, List.cons.injEq, and_true]
  constructor <;> apply BitVec.eq_of_toNat_eq <;> simp [BitVec.toNat_ushiftRight, Nat.shiftRight_eq_div_pow]

/-- A number as a two-byte item. -/
theorem bytesOfNat16_eq (n : Nat) : bytesOfNat16 n = leBytes 2 n := by
  rw [bytesOfNat16, bytes16_eq]; simp [leBytes_two_mod]

/-- A short time. -/
theorem bytes16_shortTime (t : Time) : bytes16 (shortTime t) = leBytes 2 t.toNat := by
  rw [bytes16_eq, shortTime]; simp [leBytes_two_mod]

/-- SIGNAL. -/
theorem bytes16_ofInt (x : Int) : bytes16 (BitVec.ofInt 16 x) = leBytes 2 (x % 65536).toNat := by
  rw [bytes16_eq]; simp

/-- A channel set. -/
theorem bytesOfChans_eq (c : ChanSet) : bytesOfChans c = leBytes 2 c.toNat := by
  rw [bytesOfChans, bytes16_eq, BitVec.toNat_setWidth, Nat.mod_eq_of_lt (by omega)]

/-- A pattern set. -/
theorem bytesOfPats_eq (c : PatSet) : bytesOfPats c = leBytes 3 c.toNat := by
  simp only [bytesOfPats, leBytes, List.range, List.range.loop, List.map, List.cons.injEq, and_true]
  refine ⟨?_, ?_, ?_⟩ <;> apply BitVec.eq_of_toNat_eq <;> simp [BitVec.toNat_ushiftRight, Nat.shiftRight_eq_div_pow]

/-- A flag field. -/
theorem flagByte_eq (b : Bool) : flagByte b = [byteOfBool b] := by cases b <;> rfl

/-- An optional time. -/
theorem bytes16_optShort (t : Option Time) : bytes16 (optShort t) = shortOf t := by
  cases t with
  | none => decide
  | some x => exact bytes16_shortTime x

/-- R183: a filled buffer. -/
theorem fillBuf_toList (l : List Byte) (h : l.length ≤ 16) : (fillBuf l).toList = recordOf l := by
  refine List.ext_getElem ?_ ?_
  · simp [fillBuf, recordOf]; omega
  · intro i h1 h2
    simp only [fillBuf, Vector.toList_ofFn, List.getElem_ofFn, recordOf, List.getElem_append, List.getElem_replicate,
      List.getD_eq_getElem?_getD]
    split
    · simp [*]
    · rw [List.getElem?_eq_none (by omega)]; rfl

/-! ## Judging (R182) -/

/-- R182: of checks in rising order, the one reported is the lowest-numbered that fails. -/
theorem firstFail_iff (l : List (Nat × Bool)) (hs : l.Pairwise fun a b => a.1 < b.1) (n : Nat) :
    firstFail l = some n ↔ LowestFails (fun m => (m, false) ∈ l) n := by
  induction l with
  | nil => simp [firstFail, LowestFails]
  | cons a l ih =>
    obtain ⟨k, good⟩ := a
    rw [List.pairwise_cons] at hs
    cases good
    · simp only [firstFail, Bool.false_eq_true, if_false, Option.some.injEq, LowestFails]
      constructor
      · rintro rfl
        refine ⟨by simp, fun m hm h => ?_⟩
        rcases List.mem_cons.1 h with h | h
        · cases h; omega
        · have := hs.1 _ h
          simp only at this; omega
      · rintro ⟨h, h2⟩
        rcases List.mem_cons.1 h with h | h
        · cases h; rfl
        · have := hs.1 _ h
          exact absurd List.mem_cons_self (h2 k this)
    · simp only [firstFail, if_true, ih hs.2]
      simp [LowestFails]

/-- R182: a record is refused with the check that fails first. -/
theorem judge_bad {α : Type} (l : List (Nat × Bool)) (r : α) (n : Nat) :
    judge l r = .bad n ↔ firstFail l = some n := by
  unfold judge; split <;> simp [*]

/-- R182: a record is accepted where no check fails, and as it was read. -/
theorem judge_good {α : Type} (l : List (Nat × Bool)) (r x : α) : judge l r = .good x ↔ firstFail l = none ∧ x = r := by
  unfold judge; split <;> simp [*, eq_comm]

end Sys2Proof.Machine
end

