-- ==== Sys2Proof/Tests/Slice0.lean ====
section
/-! SUPPORT. Small tests, each about one step, with results taken from the rules and tables of spec/; the checks of
WellFormed, each with an ill-formed term that it refuses; and for every obligation with hypotheses a witness that
meets them, clause by clause. -/

namespace Sys2Proof.Tests

open Sys2Proof Sys2Proof.Machine

/-! ## Helpers -/

/-- The state that a command answers. -/
def run (i : Instr) (s : State) : State :=
  match exec i s with
  | .next t => t
  | .fault _ | .refused _ => s

/-- A write transaction to the part stands at the register at `a`. -/
def writing (a : RegAddr) (s : State) : State := { s with port := { s.port with bus := .writeData, pointer := a } }

/-- The next byte is offered to CMD, with the arguments in place. -/
def offer (arg0 arg1 arg2 : Byte) (s : State) : State :=
  writing 0x0C { s with engine := { s.engine with arg0 := arg0, arg1 := arg1, arg2 := arg2 } }

/-- A read transaction from the part stands before its first byte at the register at `a`. -/
def reading (a : RegAddr) (s : State) : State := { s with port := { s.port with bus := .readFirst, pointer := a } }

/-- The record buffer filled with some bytes. -/
def buffer (l : List Byte) (s : State) : State := { s with engine := { s.engine with buf := fillBuf l } }

/-- Channel C0 with a record and a live record, its result due in a scan that started at `t`. -/
def scanning (t : Time) (cfg : ChanCfg) (l : ChanLive) : State :=
  { State.reset with
    time := t + 2
    scanner := { running := true, lastScan := some t, nextScan := some (t + 16), scan := some { list := [0], left := [0] } }
    chanCfg := State.reset.chanCfg.set 0 cfg
    chanLive := State.reset.chanLive.set 0 l }

/-- A live record with BASELINE and REFERENCE 1000. -/
def live (st : ChanState) : ChanLive := { ChanLive.zero st with baseline := 1000, reference := 1000, settleCount := 8 }

/-- A one-step TAP pattern on C0: a TAP of at most 300 ms. -/
def tapC0 : PatDef :=
  { header := { PatHeader.empty with tag := 7, reportDone := true, reportAbort := true, rearm := .again }
    steps := [{ kind := .tap, channels := 0x001, earliest := 0, latest := 0, span := 30 }], univ := 0x001 }

/-- Pattern P0 with a definition, in a state. -/
def withPattern (d : PatDef) (st : PatState) (s : State) : State :=
  { s with patDef := s.patDef.set 0 d, patState := s.patState.set 0 st, poolFree := 96 - d.steps.length }

/-- A WAITING tracker of P0 on its first step since time 100, its TAP press taken. -/
def tapped : Waiting :=
  { pattern := 0, step := 0, startTime := 100, stepStart := 100, collected := 0, chordStart := none
    tapPress := some 100, stepDue := some (.long, 400), overallDue := none }

/-- P0 ACTIVE in slot 0. -/
def active : State :=
  { withPattern tapC0 .active State.reset with trackers := State.reset.trackers.set 0 (.waiting tapped), time := 401 }

/-- A commit in flight. -/
def committing (ph : CommitPhase) (n : NvBank) (r : BankRec) : State :=
  { State.reset with
    engine := { Engine.reset with status := .busy, inFlight := some (.commit ph .a 1 factoryImage) }
    store := { State.reset.store with nv := { a := n, b := NvBank.blank }, record := { a := r, b := BankRec.blank } } }

/-! ## One step of each command -/

/-- R1: from FFFFFFFFh to 00000000h. -/
theorem test_tick_wraps : (run .timeBaseTick { State.reset with time := 0xFFFFFFFF#32 }).time = 0 := by decide

/-- R3, R166: the second scan of a new part is at 16 and places the next at 32. -/
theorem test_scanStart : (run .scanStart { State.reset with time := 17 }).scanner.nextScan = some 32 := by decide

/-- R17: a settling sum of 7000 and a raw count of 1003 settle at 8003 / 8, rounded down. R16: 4095 after 4095 counts 2
and enters the sum. -/
theorem test_scanResult_settles :
    let settled (raw : Fin 4096) (l : ChanLive) := (run (.scanResult raw) (scanning 112 factoryChanCfg l)).chanLive[0]
    (settled 1003 { ChanLive.zero .settling with settleCount := 7, settleSum := 7000 }).baseline = 1000
      ∧ (settled 4095 { ChanLive.zero .settling with settleCount := 7, settleSum := 3905, satCount := 1, satHigh := true }).baseline = 1000
      ∧ (settled 4095 { ChanLive.zero .settling with settleCount := 7, settleSum := 3905, satCount := 1, satHigh := true }).satCount = 2 := by
  decide

/-- R73, R80: LONG, passed at 401, aborts the tracker with the due time's own value. -/
theorem test_dueTimeTaken : (run .dueTimeTaken active).report.records = [.aborted 0 7 0 .long 400] := by decide

/-- R119. -/
theorem test_pulseEnd :
    (run (.pulseEnd 2) { State.reset with outState := State.reset.outState.set 2 (.pulsing 50), time := 50 }).outState[2]
      = .low := by decide

/-- R167: a power-on that finds RST_N low waits. -/
theorem test_powerOn_waits : (run (.powerOn false) { State.reset with rstLow := true }).mode = .held true := by decide

theorem test_rstNAssert : (run (.rstNAssert false) State.reset).mode = .held false := by decide

/-- R167, R149: RESET_CAUSE PIN. -/
theorem test_rstNRelease :
    (run .rstNRelease { State.reset with mode := .held false, rstLow := true }).mode = .loading .pin := by decide

/-- R168, R166: a new part, powered on, is the state of reset. -/
theorem test_startUpLoadEnd_new_part : run (.startUpLoadEnd false) (run (.powerOn false) State.reset) = State.reset := by
  decide

/-- R143: ADSEL low latches the strap override. -/
theorem test_startUpLoadEnd_strap :
    (run (.startUpLoadEnd true) { State.reset with mode := .loading .pin }).port.strap = true := by decide

theorem test_addressByte_own : (run (.addressByte 0x3A false) State.reset).port.ack = true := by decide

theorem test_addressByte_other : (run (.addressByte 0x3B false) State.reset).port.ack = false := by decide

/-- R145: the low six bits of C5h. -/
theorem test_pointerByte :
    (run (.pointerByte 0xC5) { State.reset with port := { State.reset.port with bus := .writePointer } }).port.pointer
      = 0x05#6 := by decide

/-- R145: the pointer wraps from 3Fh to 00h. -/
theorem test_registerWrite_wraps : (run (.registerWrite 0x99) (writing 0x3F State.reset)).port.pointer = 0 := by decide

/-- R155: offset 15 of the record buffer. -/
theorem test_registerWrite_buffer :
    (run (.registerWrite 0x99) (writing 0x3F State.reset)).engine.buf[15] = 0x99#8 := by decide

/-- R148: the first byte of HELD, with the second kept. -/
theorem test_snapshotRead :
    (run .snapshotRead (reading 0x06 { State.reset with held := 0x8A1#12 })).port.snapshot = some [0x08#8] := by decide

/-- R144, section 8.7: the STOP puts the waiting address in use. -/
theorem test_stop :
    (run .stopCondition { State.reset with port := { State.reset.port with waiting := some 0x51 } }).port.inUse
      = 0x51#7 := by decide

/-- R144: a repeated START does not. -/
theorem test_repeatedStart :
    (run (.repeatedStart 0x3A true) { State.reset with port := { State.reset.port with waiting := some 0x51 } }).port.inUse
      = 0x3A#7 := by decide

/-- R138. -/
theorem test_flagsWrite : (run (.flagsWrite 0xC5) (writing 0x04 { State.reset with flags := 0x3F#6 })).flags = 0x3A#6 := by
  decide

/-- R139: the eighth bit is ignored. -/
theorem test_attnMaskWrite : (run (.attnMaskWrite 0xFF) (writing 0x05 State.reset)).attnMask = 0x7F#7 := by decide

/-- R132: a pop of an empty queue changes nothing in it. -/
theorem test_pop_empty : (run (.pop 1) (writing 0x14 State.reset)).report = { records := [], lost := 0 } := by decide

/-- R132, R133. -/
theorem test_pop_lost :
    (run (.pop 0x81) (writing 0x14 { State.reset with
      time := 0x12345, report := { records := [.refused 3 9 1, .refused 4 9 2], lost := 5 } })).report
      = { records := [.refused 4 9 2, .lost 5 0x2345], lost := 0 } := by decide

/-- R123: only an enabled HOST-mode output follows OUT_LEVEL. -/
theorem test_outLevelWrite :
    let host : OutCfg := { factoryOutCfg with enable := true, mode := .host }
    let s := { State.reset with outCfg := State.reset.outCfg.set 1 host
                                outState := (State.reset.outState.set 1 .low).set 2 .low }
    (run (.outLevelWrite 0x06) (writing 0x16 s)).outState[1] = .high
      ∧ (run (.outLevelWrite 0x06) (writing 0x16 s)).outState[2] = .low := by decide

/-- Section 10.4.1: the factory GLOBALS record reads 10h, 01h, 3Ah. -/
theorem test_readRecord :
    (run .readRecord (offer 0 0 0 State.reset)).engine.buf = fillBuf [0x10, 0x01, 0x3A] := by decide

/-- R182: a CHANNEL record whose TOUCH bytes are 10h 27h is refused with DETAIL 3. -/
theorem test_writeRecord_touch :
    (run .writeRecord (buffer [1, 1, 0x10, 0x27, 0, 0, 1, 1, 0, 1, 0, 0, 0] (offer 1 0 0 State.reset))).engine.detail = 3 := by
  decide

/-- R157: table STORE_INFO is READ_ONLY. -/
theorem test_writeRecord_readOnly : (run .writeRecord (offer 7 0 0 State.reset)).engine.result = .readOnly := by decide

/-- R182: a header whose ACTION_OUTPUT byte is 06h is refused with DETAIL 11. -/
theorem test_beginPattern_detail :
    (run .beginPattern (buffer [0, 0, 0, 0, 0, 0, 0, 0, 0, 0, 6] (offer 0 0 0 State.reset))).engine.detail = 11 := by decide

/-- R48. -/
theorem test_beginPattern :
    (run .beginPattern (buffer [5, 0x77, 0, 0, 0, 1, 1, 1, 1, 0, 0xFF] (offer 3 0 0 State.reset))).build = some 3 := by decide

/-- R182: a step whose CHANNELS bytes are 01h 10h is refused with DETAIL 2. -/
theorem test_appendStep_detail :
    (run .appendStep (buffer [1, 0x01, 0x10, 0, 0, 5] (offer 0 0 0
      { State.reset with build := some 0, patState := State.reset.patState.set 0 .building }))).engine.detail = 2 := by decide

/-- R45, R48: a step takes one slot of the pool. -/
theorem test_appendStep :
    (run .appendStep (buffer [1, 0x03, 0x00, 0, 0, 5] (offer 0 0 0
      { State.reset with build := some 0, patState := State.reset.patState.set 0 .building }))).poolFree = 95 := by decide

/-- R49, check 1. -/
theorem test_endPattern_empty :
    (run .endPattern (offer 0 0 0
      { State.reset with build := some 0, patState := State.reset.patState.set 0 .building })).engine.detail = 1 := by decide

/-- R51: the steps return to the pool. -/
theorem test_abandonPattern :
    (run .abandonPattern (offer 0 0 0 { withPattern tapC0 .building State.reset with build := some 0 })).poolFree = 96 := by
  decide

/-- R52: only a DISABLED pattern is revised. -/
theorem test_revisePattern : (run .revisePattern (offer 0 0 0 (withPattern tapC0 .ready State.reset))).engine.result
    = .badState := by decide

/-- R53. -/
theorem test_deletePattern : (run .deletePattern (offer 0 0 0 (withPattern tapC0 .disabled State.reset))).patState[0]
    = .empty := by decide

/-- R54: a SPENT pattern is not rearmed. -/
theorem test_enablePattern : (run .enablePattern (offer 0 0 0 (withPattern tapC0 .spent State.reset))).patState[0]
    = .spent := by decide

/-- R56, R109: CANCELLED at the current time. -/
theorem test_disablePattern : (run .disablePattern (offer 0 0 0 active)).report.records
    = [.aborted 0 7 0 .cancelled 401] := by decide

/-- R57. -/
theorem test_armPattern : (run .armPattern (offer 0 0 0 (withPattern tapC0 .locked State.reset))).patState[0] = .ready := by
  decide

/-- R108: a flushed pattern is READY. -/
theorem test_flushTrackers : (run .flushTrackers (offer 0 0 0 active)).patState[0] = .ready := by decide

/-- R6. -/
theorem test_startScan :
    (run .startScan (offer 0 0 0 { State.reset with
      time := 77, scanner := { running := false, lastScan := some 5, nextScan := none, scan := none } })).scanner.lastScan
      = some 77 := by decide

/-- R8: LAST_SCAN is kept. -/
theorem test_stopScan : (run .stopScan (offer 0 0 0 State.reset)).scanner
    = { running := false, lastScan := some 0, nextScan := none, scan := none } := by decide

/-- R34: bit 8 of the set is bit 0 of ARG1. -/
theorem test_recalibrate :
    (run .recalibrate (offer 0 1 0 { State.reset with chanLive := Vector.replicate 12 (live .idle) })).chanLive[8].state
      = .settling := by decide

/-- R135. -/
theorem test_clearQueue :
    (run .clearQueue (offer 0 0 0 { State.reset with report := { records := [.refused 0 0 0], lost := 0 } })).report.records
      = [] := by decide

/-- R171: with no current bank the target is A with GENERATION 1. -/
theorem test_commit :
    (run .commit (offer 0 0 0 State.reset)).engine.inFlight
      = some (.commit .erase .a 1 { factoryImage with attnMask := 0x40#7 }) := by decide

/-- R175. -/
theorem test_restoreStored : (run .restoreStored (offer 0 0 0 State.reset)).engine.result = .noImage := by decide

/-- R178, R175: LOADING begins with every channel OFF. -/
theorem test_restoreFactory : (run .restoreFactory (offer 0 0 0 State.reset)).chanLive[3].state = .off := by decide

/-- R179: two BLANK banks are passed over. -/
theorem test_eraseStored : (run .eraseStored (offer 0 0 0 State.reset)).engine.status = .done := by decide

/-- R159. -/
theorem test_reinit : (run .reinit (offer 0 0 0 State.reset)).mode = .loading .reinit := by decide

/-- R150. -/
theorem test_badCommand : (run (.badCommand 0x55) (offer 0 0 0 State.reset)).engine.result = .badCommand := by decide

/-- R172: BLANK after phase 2. -/
theorem test_commitEraseEnd :
    (run .commitEraseEnd (committing .erase NvBank.blank.unformatted BankRec.damaged)).store.record.a = BankRec.blank := by
  decide

/-- R172: DAMAGED after phase 3. -/
theorem test_commitProgramEnd :
    (run .commitProgramEnd (committing .program NvBank.blank.unformatted BankRec.blank)).store.record.a
      = { state := .damaged, generation := 0 } := by decide

/-- R173: STORE_FAULT, then STORE_FAILED with CMD_DONE. -/
theorem test_commitVerifyEnd :
    (run (.commitVerifyEnd false) (committing .verify (NvBank.programmed 1 factoryImage) BankRec.damaged)).flags
      = 0x21#6 := by decide

/-- R174: VALID by examination once the word is written, though the store's record still shows DAMAGED. -/
theorem test_checkValueWordWritten :
    let t := run .checkValueWordWritten (committing (.seal false) (NvBank.programmed 1 factoryImage) BankRec.damaged)
    t.store.nv.a.judge = .valid ∧ t.store.record.a.state = .damaged := by decide

/-- R173: the target is current. -/
theorem test_commitSealEnd :
    (run (.commitSealEnd true) (committing (.seal true) (NvBank.sealed 1 factoryImage) BankRec.damaged)).store.current
      = some .a := by decide

/-- R176: the time base is kept. -/
theorem test_restoreLoadEnd :
    (run .restoreLoadEnd { State.reset with
      time := 500, engine := { Engine.reset with status := .busy, inFlight := some (.restore .factory) } }).scanner.lastScan
      = some 500 := by decide

/-- R179. -/
theorem test_eraseFirstBankEnd :
    (run .eraseFirstBankEnd { State.reset with
      engine := { Engine.reset with status := .busy, inFlight := some (.erase .a (some .b)) } }).engine.status = .done := by
  decide

theorem test_eraseSecondBankEnd :
    (run .eraseSecondBankEnd { State.reset with
      engine := { Engine.reset with status := .busy, inFlight := some (.erase .b none) } }).flags = 0x01#6 := by decide

/-- R146, R149: the ID byte. -/
theorem test_readByteTransmitted : (run .readByteTransmitted (reading 0x00 State.reset)).port.sent = some 0x5C#8 := by
  decide

/-- R174: the target of a commit cut off in phase 3 is DAMAGED. -/
theorem test_lossOfPower :
    (run (.lossOfPower false) (committing .program NvBank.blank.unformatted BankRec.blank)).store.nv.a.judge = .damaged := by
  decide

/-! ## Queue, step and decoder -/

/-- First in, first out. -/
theorem test_step_order :
    (match step { State.reset with pending := [.pulseEnd 0, .timeBaseTick] } with
      | .next t => t.pending
      | .fault _ | .refused _ => []) = [.timeBaseTick] := by decide

/-- No row of the table gives bits, so no word spells a command. -/
theorem test_decodeTableWord : decodeTableWord 8 0x40 = none ∧ State.reset.withFetchWord 8 0x40 = State.reset := by decide

/-! ## WellFormed: an ill-formed term for each check -/

theorem test_wf_badCommand : (Instr.badCommand 0x40).wf = false := by decide
theorem test_wf_touch_low : { factoryChanCfg with touch := 15, hyst := 0 }.wf = false := by decide
theorem test_wf_touch_high : { factoryChanCfg with touch := 2001 }.wf = false := by decide
theorem test_wf_hyst : { factoryChanCfg with touch := 101, hyst := 51 }.wf = false := by decide
theorem test_wf_pressDb : { factoryChanCfg with pressDb := 0 }.wf = false ∧ { factoryChanCfg with pressDb := 16 }.wf = false := by
  decide
theorem test_wf_releaseDb :
    { factoryChanCfg with releaseDb := 0 }.wf = false ∧ { factoryChanCfg with releaseDb := 16 }.wf = false := by decide
theorem test_wf_noiseBand : { factoryChanCfg with noiseBand := 256 }.wf = false := by decide
theorem test_wf_trackInterval :
    { factoryChanCfg with trackInterval := 0 }.wf = false ∧ { factoryChanCfg with trackInterval := 256 }.wf = false := by decide
theorem test_wf_maxHold : { factoryChanCfg with maxHold := 256 }.wf = false := by decide
theorem test_wf_driftLimit : { factoryChanCfg with driftLimit := 1024 }.wf = false := by decide
theorem test_wf_scanPeriod :
    { factoryGlobals with scanPeriod := 7 }.wf = false ∧ { factoryGlobals with scanPeriod := 256 }.wf = false := by decide
theorem test_wf_address :
    { factoryGlobals with address := 0x07 }.wf = false ∧ { factoryGlobals with address := 0x78 }.wf = false := by decide
theorem test_wf_header :
    { PatHeader.empty with window := 256 }.wf = false ∧ { PatHeader.empty with pulseLen := 256 }.wf = false := by decide

/-- A step of a kind on some channels. -/
def stepOf (k : Kind) (channels : ChanSet) (earliest latest span : Nat) : Step :=
  { kind := k, channels := channels, earliest := earliest, latest := latest, span := span }

/-- R42: CHORD, first and later. -/
theorem test_wf_chord :
    (stepOf .chord 0 0 0 5).fieldsWf 0 = false ∧ (stepOf .chord 3 0 0 0).fieldsWf 0 = false
      ∧ (stepOf .chord 3 0 9 5).fieldsWf 0 = false ∧ (stepOf .chord 3 9 9 5).fieldsWf 1 = false := by decide
/-- R42: TAP. -/
theorem test_wf_tap :
    (stepOf .tap 3 0 0 5).fieldsWf 0 = false ∧ (stepOf .tap 1 0 0 0).fieldsWf 0 = false
      ∧ (stepOf .tap 1 0 0 5).fieldsWf 1 = false := by decide
/-- R42: HOLD, LIFT and QUIET. -/
theorem test_wf_hold_lift_quiet :
    (stepOf .hold 1 0 9 5).fieldsWf 1 = false ∧ (stepOf .lift 1 0 9 5).fieldsWf 1 = false
      ∧ (stepOf .quiet 0 1 0 5).fieldsWf 1 = false := by decide
/-- R42: no HOLD, LIFT or QUIET first, and no QUIET after a QUIET. -/
theorem test_wf_positions :
    stepsWf [] [stepOf .hold 1 0 0 5] = false ∧ stepsWf [] [stepOf .lift 1 0 9 0] = false
      ∧ stepsWf [] [stepOf .quiet 0 0 0 5] = false
      ∧ stepsWf [] [stepOf .tap 1 0 0 5, stepOf .quiet 0 0 0 5, stepOf .quiet 0 0 0 5] = false := by decide
/-- R161: at least one step, at most eight. -/
theorem test_wf_patImage :
    PatImage.wf { header := PatHeader.empty, enabled := true, steps := [] } = false
      ∧ PatImage.wf { header := PatHeader.empty, enabled := true
                      steps := stepOf .tap 1 0 0 5 :: List.replicate 8 (stepOf .tap 1 0 9 5) } = false := by decide
/-- The factory image with one pattern entry. -/
def imageWith (p : PatIdx) (q : PatImage) : Image := { factoryImage with pats := factoryImage.pats.set p (some q) }
/-- A pattern image of some steps. -/
def patOf (steps : List Step) : PatImage := { header := PatHeader.empty, enabled := true, steps := steps }
/-- R161: a value out of range anywhere in an image. -/
theorem test_wf_image :
    { factoryImage with globals := { factoryGlobals with scanPeriod := 7 } }.wf = false
      ∧ { factoryImage with chans := factoryImage.chans.set 11 { factoryChanCfg with touch := 15 } }.wf = false
      ∧ (imageWith 23 (patOf [])).wf = false := by decide
/-- Thirteen patterns of eight steps. -/
def heavyPats : Vector (Option PatImage) 24 :=
  Vector.ofFn fun p : PatIdx => if p.val < 13 then
    some (patOf (stepOf .tap 1 0 0 5 :: List.replicate 7 (stepOf .tap 1 0 9 5))) else none
/-- R161: 13 patterns of 8 steps are more than 96. -/
theorem test_wf_image_total : { factoryImage with pats := heavyPats }.wf = false := by decide

/-! ## A full state: every block at work

C0 is RELEASING with its last result due, which ends P0's HOLD and so completes P1, PENDING behind it; the queue is
full with LOST_COUNT 255; a commit into B is being verified; P2 is BUILDING and P3 LOCKED; output 0 follows C0. -/

/-- A definition of some steps with PRIORITY `pr`. -/
def defOf (pr : Fin 8) (steps : List Step) : PatDef :=
  { header := { PatHeader.empty with priority := pr, tag := 9, reportDone := true, reportAbort := true, defer := true,
                                     actionOut := some 0, rearm := .again }
    steps := steps, univ := unionOf steps }

/-- R49, R161: checks 2 to 5 of END_PATTERN on a defined pattern and on a pattern of an image: a HOLD after a TAP, a
CHORD that adds no channel, FOLLOW after a TAP, PULSE of no length; and a CHORD that adds one, with its HOLD. -/
theorem test_checked :
    (defOf 0 [stepOf .tap 1 0 0 5, stepOf .hold 1 0 0 5]).shapeIn .ready = false
      ∧ (defOf 0 [stepOf .chord 3 0 0 5, stepOf .chord 2 0 9 5]).shapeIn .disabled = false
      ∧ endChecksPass { PatHeader.empty with actionOut := some 0, actionOp := .follow } [stepOf .tap 1 0 0 5] = false
      ∧ endChecksPass { PatHeader.empty with actionOut := some 0, actionOp := .pulse } [stepOf .tap 1 0 0 5] = false
      ∧ (defOf 0 [stepOf .chord 1 0 0 5, stepOf .chord 3 0 9 5, stepOf .hold 1 0 0 5]).shapeIn .active = true
      ∧ imageChecked (imageWith 23 (patOf [stepOf .tap 1 0 0 5, stepOf .hold 1 0 0 5])) = false
      ∧ imageChecked factoryImage = true := by decide

/-- A WAITING record of P0 in a HOLD of C0. -/
def holding : Waiting :=
  { pattern := 0, step := 1, startTime := 100, stepStart := 100, collected := 0, chordStart := none, tapPress := none
    stepDue := some (.holdEnd, 500), overallDue := some 900 }

/-- A PENDING record of P1 behind P0. -/
def behind : Pending := { pattern := 1, step := 0, startTime := 100, stepStart := 100, endTime := 200, blockers := 1 }

/-- The full state, with a raw count of 1000 for C0 waiting. -/
def full : State :=
  { State.reset with
    pending := [.scanResult 1000]
    time := 385
    scanner := { running := true, lastScan := some 384, nextScan := some 400, scan := some { list := [0], left := [0] } }
    chanLive := (Vector.replicate 12 (live .idle)).set 0 { live .releasing with debounce := 1, pressTime := 50 }
    patDef := (((State.reset.patDef.set 0 (defOf 7 [stepOf .chord 1 0 0 5, stepOf .hold 1 0 0 40])).set 1
      (defOf 0 [stepOf .tap 1 0 0 5])).set 2 { defOf 3 [stepOf .tap 1 0 0 5] with univ := 0 }).set 3
      (defOf 4 [stepOf .tap 1 0 0 5])
    patState := (((State.reset.patState.set 0 .active).set 1 .active).set 2 .building).set 3 .locked
    poolFree := 91
    build := some 2
    held := 1
    trackers := (State.reset.trackers.set 0 (.waiting holding)).set 5 (.pending behind)
    outCfg := State.reset.outCfg.set 0 { factoryOutCfg with enable := true }
    outState := State.reset.outState.set 0 (.following 1)
    report := { records := List.replicate 32 (.refused 0 0 0), lost := 255 }
    flags := 0x3F#6
    engine := { Engine.reset with status := .busy, inFlight := some (.commit .verify .b 0 factoryImage) }
    port := { State.reset.port with bus := .writeData, pointer := 0x0C, waiting := some 0x51 }
    store := { State.reset.store with
      nv := { a := NvBank.sealed 0xFFFF factoryImage, b := NvBank.programmed 0 factoryImage }
      record := { a := { state := .valid, generation := 0xFFFF }, b := BankRec.damaged } } }

/-! The full state meets every law, so the hypotheses of every EveryStepKeeps statement, together: the law, and a step to a next state. -/

theorem witness_EveryStepKeepsTheQueueLaw : (full.report.Law) ∧ ∃ t, step full = .next t :=
  ⟨by decide, _, rfl⟩

theorem witness_EveryStepKeepsTheEngineLaw : (full.EngineOk) ∧ ∃ t, step full = .next t :=
  ⟨by decide, _, rfl⟩

theorem witness_EveryStepKeepsTheHeldSet : (full.HeldOk) ∧ ∃ t, step full = .next t :=
  ⟨by decide, _, rfl⟩

theorem witness_EveryStepKeepsTheScannerLaw : (full.ScannerOk) ∧ ∃ t, step full = .next t :=
  ⟨by decide, _, rfl⟩

theorem witness_EveryStepKeepsLiveRecordsInRange :
    ((∀ c : Chan, full.chanCfg[c].wf = true) ∧ full.LiveOk) ∧ ∃ t, step full = .next t :=
  ⟨by decide, _, rfl⟩

theorem witness_EveryStepKeepsTheOutputLaw : (full.OutputsOk) ∧ ∃ t, step full = .next t :=
  ⟨by decide, _, rfl⟩

theorem witness_EveryStepKeepsTheBindings : (full.BindingsOk) ∧ ∃ t, step full = .next t :=
  ⟨by decide, _, rfl⟩

theorem witness_EveryStepKeepsThePoolLaw : (full.BindingsOk ∧ full.PoolOk) ∧ ∃ t, step full = .next t :=
  ⟨by decide, _, rfl⟩

theorem witness_EveryStepKeepsTheConfigurationValid :
    (full.BindingsOk ∧ full.PoolOk ∧ full.ConfigOk) ∧ ∃ t, step full = .next t :=
  ⟨by decide, _, rfl⟩

theorem witness_EveryStepKeepsPendingTrackersBlocked :
    (full.BindingsOk ∧ full.PendingOk) ∧ ∃ t, step full = .next t :=
  ⟨by decide, _, rfl⟩

theorem witness_EveryStepKeepsTheStoreRecord : (full.StoreOk) ∧ ∃ t, step full = .next t :=
  ⟨by decide, _, rfl⟩

/-- The full state steps: the result ends P0's HOLD and P1 completes behind it. -/
theorem test_step_full :
    ∃ t, step full = .next t ∧ t.trackers = Vector.replicate 6 .free ∧ t.held = 0
      ∧ t.outState[0] = .high := by
  exact ⟨_, rfl, by decide⟩

/-! ## Witnesses: time base, scanner and channels -/

/-- The state of reset with the scanner STOPPED and every channel SUSPENDED. -/
def stopped : State :=
  { State.reset with scanner := { running := false, lastScan := some 0, nextScan := none, scan := none }
                     chanLive := Vector.replicate 12 (ChanLive.zero .suspended) }

/-- `s` has a scan due `n` from now. -/
def DueScan (s : State) : Prop :=
  ∃ n : Time, s.scanner.running = true ∧ s.scanner.nextScan = some n ∧ (s.time - n).toNat < 2 ^ 31

theorem witness_TickAndScanStart :
    DueScan { State.reset with time := 16 } ∧ DueScan { State.reset with time := 0x8000000F } ∧ stopped.scanner.running = false :=
  ⟨⟨16, by decide⟩, ⟨16, by decide⟩, by decide⟩

/-- NEXT_SCAN 16, not reached at 15 and at a distance of 2^31; and none. -/
theorem witness_TickAndScanStart_notReached :
    State.reset.scanner.nextScan = some 16 ∧ 2 ^ 31 ≤ ((15#32) - 16).toNat ∧ 2 ^ 31 ≤ ((0x80000010#32) - 16).toNat
      ∧ stopped.scanner.nextScan = none := by decide

theorem witness_StartScanStartsTheScanner :
    ((offer 0 0 0 State.reset).Takes ∧ (offer 0 0 0 State.reset).scanner.running = true)
      ∧ (offer 0 0 0 stopped).Takes ∧ (offer 0 0 0 stopped).scanner.running = false := by decide

/-- The last two: a channel that is down, and no channel that is down. -/
theorem witness_StopScanStopsTheScanner :
    (offer 0 0 0 stopped).Takes ∧ (offer 0 0 0 stopped).scanner.running = false
      ∧ (offer 0 0 0 State.reset).Takes ∧ (offer 0 0 0 State.reset).scanner.running = true
      ∧ (offer 0 0 0 { State.reset with chanLive := State.reset.chanLive.set 11 (live .pressed) }).chanLive[(11 : Chan)].state.isDown = true
      ∧ ∀ c : Chan, (offer 0 0 0 State.reset).chanLive[c].state.isDown = false := by decide

/-- C11 alone is down and held, with STOP_SCAN offered. -/
def haltingC11 : State :=
  offer 0 0 0 { State.reset with chanLive := (Vector.replicate 12 (live .arming)).set 11 (live .pressed), held := 0x800 }

theorem witness_StopScanStopsTheScanner_down :
    haltingC11.Takes ∧ haltingC11.scanner.running = true ∧ haltingC11.chanLive[(11 : Chan)].state.isDown = true
      ∧ (∀ d : Chan, d ≠ 11 → haltingC11.chanLive[d].state.isDown = false) ∧ haltingC11.NoTracker ∧ haltingC11.HeldOk := by
  decide

/-- R9: the HALT release. -/
theorem test_stopScan_halt :
    (run .stopScan { haltingC11 with time := 0x12345 }).report.records
      = [.channel 11 (.release .halt) 0x2345 65535] := by decide

/-- A result is due for C0, with record `cfg` and live record `l`, in a scan of time `t`; no tracker is in use and no
pattern is READY. -/
abbrev Due (t : Time) (cfg : ChanCfg) (l : ChanLive) : Prop :=
  (scanning t cfg l).Delivers t [0] 0 [] ∧ (scanning t cfg l).NoTracker
    ∧ (∀ p : PatIdx, (scanning t cfg l).patState[p] ≠ .ready) ∧ cfg = (scanning t cfg l).chanCfg[(0 : Chan)]
    ∧ l = (scanning t cfg l).chanLive[(0 : Chan)]

/-- A result leaves SAT_COUNT below 3. -/
abbrev Counts (l : ChanLive) (raw : Nat) : Prop := (l.counted (Fin.ofNat 4096 raw)).satCount < 3

/-- A channel with a saturation count at the extreme `high`. -/
def satOf (st : ChanState) (n : Nat) (high : Bool) : ChanLive := { live st with satCount := n, satHigh := high }

/-- R16: a first and a second result at an extreme, one at the other extreme, and one away from both; and a third. -/
theorem witness_counted :
    (Counts (satOf .idle 0 false) 0 ∧ Counts (satOf .idle 1 true) 4095 ∧ Counts (satOf .idle 2 true) 0
      ∧ Counts (satOf .idle 2 true) 1 ∧ Counts (satOf .idle 2 false) 4094)
      ∧ ¬ Counts (satOf .idle 2 true) 4095 ∧ ¬ Counts (satOf .idle 2 false) 0 := by decide

theorem witness_ResultsThatProduceNothing_discarded :
    ∀ st ∈ [ChanState.off, .suspended, .fault], Due 0 factoryChanCfg (ChanLive.zero st) := by decide

/-- The first, the seventh and the eighth result, at each extreme and next to it. -/
theorem witness_ResultsThatProduceNothing_settling :
    (∀ k ∈ [0, 6, 7], Due 0 factoryChanCfg { ChanLive.zero .settling with settleCount := k, satCount := 1, satHigh := true }
      ∧ ∀ raw ∈ [0, 1, 4094, 4095], Counts { ChanLive.zero .settling with settleCount := k, satCount := 1, satHigh := true } raw)
      ∧ (0 < 7 ∧ 6 < 7) := by decide

/-- The signals on both sides of the upper and of the lower edge of the noise band of 12, and TOUCH − 1. -/
theorem witness_ResultsThatProduceNothing_idle :
    Due 0 factoryChanCfg (live .idle) ∧ factoryChanCfg.driftLimit = 0
      ∧ (∀ raw ∈ [0, 987, 988, 1012, 1013, 1119], Counts (live .idle) raw)
      ∧ ((1119 : Fin 4096).val : Int) - (live .idle).baseline < factoryChanCfg.touch := by decide

/-- DRIFT_LIMIT 1, REFERENCE 1000: BASELINE falls to 999, at the limit; a step in the band takes it from 1000 to 1001;
and it stays where it is beyond the limit. -/
theorem witness_ResultsThatProduceNothing_drift :
    (∀ l ∈ [live .idle, { live .idle with track := 15 }, { live .idle with baseline := 998, track := 14 }],
      Due 0 { factoryChanCfg with driftLimit := 1 } l)
      ∧ (live .idle).trackedBaseline factoryChanCfg 987 = 999 ∧ ((999 : Int) - 1000).natAbs ≤ 1
      ∧ { live .idle with track := 15 }.trackedBaseline factoryChanCfg 1012 = 1001
      ∧ { live .idle with baseline := 998, track := 14 }.trackedBaseline factoryChanCfg 998 = 998
      ∧ Counts (live .idle) 987 ∧ Counts { live .idle with track := 15 } 1012
      ∧ Counts { live .idle with baseline := 998, track := 14 } 998 := by decide

/-- IDLE with a count of 1 and ARMING with a count of 2, of PRESS_DB 2, at TOUCH and at 4095; and ARMING at TOUCH − 1
and at 0. -/
theorem witness_PressesAreConfirmed :
    Due 0xFFFFFFF0 factoryChanCfg (live .idle)
      ∧ Due 0xFFFFFFF0 factoryChanCfg { live .arming with debounce := 1 }
      ∧ (∀ raw ∈ [1120, 4095], Counts (live .idle) raw ∧ Counts { live .arming with debounce := 1 } raw
        ∧ (factoryChanCfg.touch : Int) ≤ (raw : Int) - (live .idle).baseline)
      ∧ 1 < factoryChanCfg.pressDb ∧ factoryChanCfg.pressDb ≤ 1 + 1
      ∧ ∀ raw ∈ [1119, 0], Counts (live .arming) raw ∧ (raw : Int) - (live .arming).baseline < factoryChanCfg.touch := by
  decide

/-- PRESSED with a count of 1 and RELEASING with a count of 2, of RELEASE_DB 2, at TOUCH − HYST − 1 and at 0; both at
TOUCH − HYST and at 4095; with MAX_HOLD 0, and with MAX_HOLD 1 a millisecond before the limit. -/
theorem witness_ReleasesAreConfirmed :
    ∀ cfg ∈ [factoryChanCfg, { factoryChanCfg with maxHold := 1 }],
      ∀ l ∈ [{ live .pressed with pressTime := 0xFFFFFFF0 }, { live .releasing with pressTime := 0xFFFFFFF0, debounce := 1 }],
        Due 0x53 cfg l ∧ (cfg.maxHold = 0 ∨ ((0x53#32) - l.pressTime).toNat < cfg.maxHold * 100)
          ∧ (∀ raw ∈ [1099, 0], Counts l raw ∧ (raw : Int) - l.baseline < (cfg.touch : Int) - cfg.hyst)
          ∧ (∀ raw ∈ [1100, 4095], Counts l raw ∧ (cfg.touch : Int) - cfg.hyst ≤ (raw : Int) - l.baseline)
          ∧ 1 < cfg.releaseDb ∧ cfg.releaseDb ≤ 1 + 1 := by decide

/-- P23's tracker in slot 5, on step 1 of some steps, its due times at the time of the next event; C0's result, which
confirms its PRESS or, where it is down, its RELEASE, is due. -/
def meeting (down : Bool) (x : Step) (tap : Option Time) : State :=
  let s := scanning 0xFFFFFFF0 factoryChanCfg
    (if down then { live .releasing with debounce := 1, pressTime := 0xFFFFFF00 } else { live .arming with debounce := 1 })
  { s with
    held := if down then 1 else 0
    patDef := s.patDef.set 23 { defOf 0 [stepOf .tap 4 0 0 5, x] with univ := 7 }
    patState := s.patState.set 23 .active
    trackers := s.trackers.set 5 (.waiting { tapped with
      pattern := 23, step := 1, startTime := 0xFFFFFFC0, stepStart := 0xFFFFFFE0, tapPress := tap
      stepDue := some (.late, 0xFFFFFFF0), overallDue := some 0xFFFFFFF0 }) }

/-- The tracker of `meeting`. -/
def meets (tap : Option Time) : Waiting :=
  { tapped with
    pattern := 23, step := 1, startTime := 0xFFFFFFC0, stepStart := 0xFFFFFFE0, tapPress := tap
    stepDue := some (.late, 0xFFFFFFF0), overallDue := some 0xFFFFFFF0 }

/-- The situation of both clauses about one tracker. -/
abbrev Meets (s : State) (tap : Option Time) : Prop :=
  s.Delivers 0xFFFFFFF0 [0] 0 [] ∧ s.trackers[(5 : SlotIdx)] = .waiting (meets tap)
    ∧ (∀ j : SlotIdx, j ≠ 5 → s.trackers[j] = .free)
    ∧ ∀ p : PatIdx, s.patState[p] ≠ .ready

theorem witness_meeting :
    Meets (meeting false (stepOf .chord 3 0 9 5) none) none ∧ Meets (meeting true (stepOf .hold 1 0 0 5) none) none
      ∧ Meets (meeting true (stepOf .tap 1 0 9 5) (some 0xFFFFFFE8)) (some 0xFFFFFFE8) := by decide

/-- Both due times of that tracker are at the event's own time. -/
theorem witness_meeting_notDue (tap : Option Time) : (meets tap).NotDueBefore 0xFFFFFFF0 :=
  ⟨fun _ h => by obtain rfl := Option.some.inj h; decide, fun _ h => by obtain rfl := Option.some.inj h; decide⟩

/-- A PRESS of C0 that a CHORD collects, one that comes too early for it, and one that completes it. -/
theorem witness_PressesAreConfirmed_tracker :
    let ev : Event := { chan := 0, press := true, time := 0xFFFFFFF0, cause := .natural, duration := 0 }
    (∃ y, offerEvent (meeting false (stepOf .chord 3 0 9 5) none).patDef[(23 : PatIdx)] 1 ev (meets none) = .stay y)
      ∧ (∃ y, offerEvent (meeting false (stepOf .chord 3 2 9 5) none).patDef[(23 : PatIdx)] 1 ev (meets none)
        = .abort y .early 0xFFFFFFF0)
      ∧ ∃ y, offerEvent (meeting false (stepOf .chord 1 0 9 5) none).patDef[(23 : PatIdx)] 1 ev (meets none)
        = .candidate y 0xFFFFFFF0 := ⟨⟨_, rfl⟩, ⟨_, rfl⟩, _, rfl⟩

/-- A RELEASE of C0 that a CHORD does not concern, one that a HOLD loses, and one that completes a TAP. -/
theorem witness_ReleasesAreConfirmed_tracker :
    let ev : Event := { chan := 0, press := false, time := 0xFFFFFFF0, cause := .natural, duration := 240 }
    (∃ y, offerEvent (meeting true (stepOf .chord 3 0 9 5) none).patDef[(23 : PatIdx)] 0 ev (meets none) = .stay y)
      ∧ (∃ y, offerEvent (meeting true (stepOf .hold 1 0 0 5) none).patDef[(23 : PatIdx)] 0 ev (meets none)
        = .abort y .holdLost 0xFFFFFFF0)
      ∧ ∃ y, offerEvent (meeting true (stepOf .tap 1 0 9 5) (some 0xFFFFFFE8)).patDef[(23 : PatIdx)] 0 ev
          (meets (some 0xFFFFFFE8)) = .candidate y 0xFFFFFFF0 := ⟨⟨_, rfl⟩, ⟨_, rfl⟩, _, rfl⟩

/-- R88: the release of C0 reaches P23's tracker through a scan result. -/
theorem test_scanResult_offers :
    (run (.scanResult 1000) (meeting true (stepOf .hold 1 0 0 5) none)).report.records
      = [.channel 0 (.release .natural) 0xFFF0 240, .aborted 23 9 1 .holdLost 0xFFF0] := by decide

/-- MAX_HOLD 1, at the limit, at a count away from the extremes and at 4095. -/
theorem witness_LongPressesAreDeclaredStuck :
    ∀ l ∈ [live .pressed, live .releasing], Due 100 { factoryChanCfg with maxHold := 1 } l
      ∧ Counts l 1500 ∧ Counts l 4095 ∧ 1 * 100 ≤ ((100#32) - l.pressTime).toNat := by decide

/-- A channel whose last two results were at the extreme `high`. -/
def extreme (st : ChanState) (high : Bool) : ChanLive := satOf st 2 high

/-- The third result at either extreme, of a channel that is down and of one that is not. -/
theorem witness_FaultsAreEntered_saturation :
    (Due 0 factoryChanCfg (extreme .settling true) ∧ (0 : Chan) ∈ measuredIn (scanning 0 factoryChanCfg (extreme .settling true)).chanLive)
      ∧ (Due 0 factoryChanCfg (extreme .pressed false) ∧ (0 : Chan) ∈ measuredIn (scanning 0 factoryChanCfg (extreme .pressed false)).chanLive)
      ∧ (extreme .settling true).satHigh = ((4095 : Fin 4096).val == 4095)
      ∧ (extreme .pressed false).satHigh = ((0 : Fin 4096).val == 4095) := by decide

/-- DRIFT_LIMIT 1, REFERENCE 1000: BASELINE falls below the band from 999 to 998; and steps toward RAW within the band
from 1001 to 1002. -/
theorem witness_FaultsAreEntered_drift :
    Due 0 { factoryChanCfg with driftLimit := 1 } { live .idle with baseline := 999 }
      ∧ Counts { live .idle with baseline := 999 } 986 ∧ Counts { live .idle with baseline := 999 } 0
      ∧ { live .idle with baseline := 999 }.trackedBaseline factoryChanCfg 986 = 998 ∧ 1 < ((998 : Int) - 1000).natAbs
      ∧ Due 0 { factoryChanCfg with driftLimit := 1 } { live .idle with baseline := 1001, track := 15 }
      ∧ Counts { live .idle with baseline := 1001, track := 15 } 1002
      ∧ { live .idle with baseline := 1001, track := 15 }.trackedBaseline factoryChanCfg 1002 = 1002
      ∧ 1 < ((1002 : Int) - 1000).natAbs
      ∧ ((1002 : Fin 4096).val : Int) - 1001 < factoryChanCfg.touch := by decide

/-- The whole set with no channel down; and the last channel, down. -/
theorem witness_RecalibrateSettlesTheSet :
    let s := offer 0xFF 0x0F 0 State.reset
    let t := offer 0 0x08 0 { State.reset with chanLive := State.reset.chanLive.set 11 (live .pressed) }
    s.Takes ∧ (∀ c : Chan, s.chanLive[c].state.isDown = false)
      ∧ t.Takes ∧ t.NoTracker ∧ t.chanLive[(11 : Chan)].state.isDown = true
      ∧ (t.engine.arg0.setWidth 12 ||| t.engine.arg1.setWidth 12 <<< 8) = 1#12 <<< (11 : Chan).val := by decide

/-- The full state, offered a command with an empty queue: C0 is down, P0's tracker has it in its UNIVERSE, and P1 is
PENDING behind P0; C11 is down too. -/
def lostC0 (arg0 arg1 : Byte) : State :=
  offer arg0 arg1 0 { full with
    engine := Engine.reset
    report := { records := [], lost := 0 }
    chanLive := full.chanLive.set 11 (live .pressed)
    held := 0x801 }

theorem witness_releases_with_trackers :
    (lostC0 0x01 0x08).Takes ∧ (lostC0 0x01 0x08).scanner.running = true
      ∧ (lostC0 0x01 0x08).chanLive[(0 : Chan)].state.isDown = true
      ∧ (lostC0 0x01 0x08).chanLive[(11 : Chan)].state.isDown = true
      ∧ ¬ (lostC0 0x01 0x08).NoTracker := by decide

/-- R34, R79, R99: C0's release, the abort it causes and the completion that this releases come before C11's release. -/
theorem test_recalibrate_lost :
    (run .recalibrate (lostC0 0x01 0x08)).report.records
      = [.channel 0 (.release .recal) 385 335, .aborted 0 9 1 .channelLost 385, .recognized 1 9 100 200 true false,
        .channel 11 (.release .recal) 385 385] := by decide

/-- The buffer with the CHANNEL record of ENABLE `e`. -/
def chanWrite (c : Byte) (e : Byte) (l : ChanLive) : State :=
  buffer [e, 1, 16, 0, 8, 0, 15, 1, 255, 1, 255, 255, 3] (offer 1 c 0
    { State.reset with chanLive := State.reset.chanLive.set 11 l })

/-- Index 12; a bad field 3; and, for channel 11, each clause by its state and the new ENABLE. -/
theorem witness_ChannelWritesMoveTheChannel :
    ((chanWrite 12 1 (live .idle)).Takes ∧ 12 ≤ (chanWrite 12 1 (live .idle)).engine.arg1.toNat)
      ∧ readChannel (buffer [1, 1, 15, 0, 0, 0, 1, 1, 0, 1] State.reset).engine.buf = .bad 3
      ∧ (∀ st ∈ [ChanState.off, .settling, .idle, .arming, .pressed, .releasing, .suspended, .fault], ∀ e ∈ [false, true],
        (chanWrite 11 (byteOfBool e) (live st)).Takes ∧ (chanWrite 11 (byteOfBool e) (live st)).NoTracker
          ∧ (chanWrite 11 (byteOfBool e) (live st)).engine.arg1 = BitVec.ofNat 8 (11 : Chan).val
          ∧ (chanWrite 11 (byteOfBool e) (live st)).chanLive[(11 : Chan)].state = st
          ∧ readChannel (chanWrite 11 (byteOfBool e) (live st)).engine.buf = .good
            { enable := e, report := true, touch := 16, hyst := 8, pressDb := 15, releaseDb := 1, noiseBand := 255
              trackInterval := 1, maxHold := 255, driftLimit := 1023 }) := by decide

/-! ## Witnesses: records, commands, port, queue and outputs -/

/-- GLOBALS with SCAN_PERIOD 8 and ADDRESS 77h, and with a bad field 3; OUTPUT 5, index 6, and a bad field 6; the
read-only tables 2 and 7; and table 8. -/
theorem witness_GlobalsAndOutputWrites :
    (buffer [8, 0, 0x77] (offer 0 0 0 State.reset)).Takes ∧ (buffer [8, 0, 0x77] (offer 0 0 0 State.reset)).engine.arg0 = 0
      ∧ readGlobals (fillBuf [8, 0, 0x77]) = .good { scanPeriod := 8, scanAtStart := false, address := 0x77#7 }
      ∧ readGlobals (fillBuf [255, 1, 0x78]) = .bad 3
      ∧ (offer 3 5 0 State.reset).Takes ∧ (offer 3 5 0 State.reset).engine.arg0 = 3
      ∧ (offer 3 5 0 State.reset).engine.arg1 = BitVec.ofNat 8 (5 : OutIdx).val
      ∧ 6 ≤ (offer 3 6 0 State.reset).engine.arg1.toNat
      ∧ readOutput (fillBuf [1, 1, 1, 1, 1, 2]) = .bad 6
      ∧ readOutput (fillBuf [1, 0, 0, 1, 0, 1]) = .good { factoryOutCfg with enable := true, mode := .host, initialHigh := true }
      ∧ (offer 2 0 0 State.reset).engine.arg0 ∈ [2#8, 4#8, 5#8, 6#8, 7#8]
      ∧ (offer 7 0 0 State.reset).engine.arg0 ∈ [2#8, 4#8, 5#8, 6#8, 7#8]
      ∧ 8 ≤ (offer 8 0 0 State.reset).engine.arg0.toNat := by decide

/-- Every table, at its first and at its last index and one beyond it. -/
theorem witness_ReadRecordShowsTheRecordAsked :
    (∃ filled : Buf → Host.Outcome State Fault Refusal, ∀ b, filled b = .next
      ({ offer 0 0 0 State.reset with engine := { (offer 0 0 0 State.reset).engine with buf := b } }.posted 0x01#8 .ok 0))
      ∧ (offer 0 0 0 State.reset).Takes ∧ (offer 0 0 0 State.reset).engine.arg0 = 0
      ∧ (∀ c ∈ [(0 : Chan), 11], (offer 1 (byteOf c.val) 0 State.reset).engine.arg1 = BitVec.ofNat 8 c.val)
      ∧ (∀ o ∈ [(0 : OutIdx), 5], (offer 3 (byteOf o.val) 0 State.reset).engine.arg1 = BitVec.ofNat 8 o.val)
      ∧ (∀ p ∈ [(0 : PatIdx), 23], (offer 4 (byteOf p.val) 0 State.reset).engine.arg1 = BitVec.ofNat 8 p.val)
      ∧ tapC0.steps[(offer 5 0 0 State.reset).engine.arg2.toNat]? = some (stepOf .tap 1 0 0 30)
      ∧ tapC0.steps.length ≤ (offer 5 0 1 State.reset).engine.arg2.toNat
      ∧ 8 ≤ (offer 8 0 0 State.reset).engine.arg0.toNat
      ∧ (offer 2 12 0 State.reset).engine.arg0 ∈ [1#8, 2#8] ∧ 12 ≤ (offer 2 12 0 State.reset).engine.arg1.toNat
      ∧ (offer 6 6 0 State.reset).engine.arg0 ∈ [3#8, 6#8] ∧ 6 ≤ (offer 6 6 0 State.reset).engine.arg1.toNat
      ∧ (offer 5 24 0 State.reset).engine.arg0 ∈ [4#8, 5#8] ∧ 24 ≤ (offer 5 24 0 State.reset).engine.arg1.toNat :=
  ⟨⟨_, fun _ => rfl⟩, by decide⟩

/-- A WAITING record with a TAP press and no CHORD_START. -/
theorem witness_ReadRecordShowsTheRecordAsked_layout : tapped.chordStart = none ∨ tapped.tapPress = none := by decide

/-- Section 10.4.7: T0 of the worked example, after the press of C7 at 5520. -/
theorem test_layout_tracker :
    showTracker (.waiting { pattern := 5, step := 2, startTime := 4032, stepStart := 5048, collected := 0
                            chordStart := none, tapPress := some 5520, stepDue := some (.long, 5920)
                            overallDue := some 9032 })
      = fillBuf [1, 5, 2, 0x53, 0xC0, 0x0F, 0xB8, 0x13, 0, 0, 0x90, 0x15, 0x20, 0x17, 0x48, 0x23] := by decide

/-- Section 10.4.3: a SIGNAL of −198 reads 3Ah, FFh. -/
theorem test_layout_live :
    (showLive { live .idle with signal := -198 })[7] = 0x3A#8 ∧ (showLive { live .idle with signal := -198 })[8] = 0xFF#8 := by
  decide

/-- Sections 10.2.1 and 10.2.5: RUN_STATE 95h while RUNNING with P5 BUILDING; STORE_STATE 29h in a COMMIT taken with B
current on a part loaded from B. -/
theorem test_runState_storeState :
    { State.reset with build := some 5 }.readReg 0x03 = 0x95#8
      ∧ { State.reset with
          engine := { Engine.reset with inFlight := some (.commit .erase .a 2 factoryImage) }
          store := { State.reset.store with
            record := { a := BankRec.damaged, b := { state := .valid, generation := 1 } }, source := .bank .b } }.readReg 0x1A
        = 0x29#8 := by decide

/-- Section 10.5.6: the stuck release and the DRIFT fault of C2. -/
theorem test_record_bytes :
    (Record.channel 2 .stuck 5001 2001).bytes = [0x04, 0x02, 0x02, 0x03, 0x89, 0x13, 0xD1, 0x07]
      ∧ (Record.channel 2 (.fault .drift) 5033 0).bytes = [0x04, 0x02, 0x03, 0x03, 0xA9, 0x13, 0, 0] := by decide

/-- Records at the ends of their ranges, and steps first and second in their list. -/
theorem witness_RecordsReadBackAsShown :
    { scanPeriod := 255, scanAtStart := true, address := 0x08#7 : Globals }.wf = true
      ∧ { factoryChanCfg with touch := 2000, hyst := 1000, driftLimit := 1023 }.wf = true
      ∧ { PatHeader.empty with priority := 7, window := 255, actionOut := some 5, pulseLen := 255 }.wf = true
      ∧ stepsWf ([] : List Step).reverse [stepOf .chord 0xFFF 0 0 255] = true
      ∧ stepsWf [stepOf .tap 1 0 0 1].reverse [stepOf .quiet 0 0 0 1] = true
      ∧ readGlobals (fillBuf [8, 0, 0x77]) = .good { scanPeriod := 8, scanAtStart := false, address := 0x77#7 }
      ∧ readStep (fillBuf [2, 0, 8, 0, 0, 1]) [] = .good (stepOf .tap 0x800 0 0 1) := by decide

theorem witness_RecordsReadBackAsShown_read :
    readChannel (fillBuf [1, 0, 0xD0, 7, 0xE8, 3, 15, 15, 255, 255, 255, 255, 3])
      = .good { enable := true, report := false, touch := 2000, hyst := 1000, pressDb := 15, releaseDb := 15
                noiseBand := 255, trackInterval := 255, maxHold := 255, driftLimit := 1023 }
      ∧ readHeader (fillBuf [7, 1, 0, 0, 0, 0, 0, 2, 1, 255, 0xFF, 4, 255])
        = .good { PatHeader.empty with priority := 7, tag := 1, rearm := .afterRelease, startEnabled := true
                                       window := 255, actionOp := .follow, pulseLen := 255 } := by decide

/-- Accepted at the last offset that each record reads. -/
theorem witness_RecordsReadBackAsShown_bytes :
    (2 : Fin 16) < 3 ∧ (12 : Fin 16) < 13 ∧ (5 : Fin 16) < 6
      ∧ readOutput (fillBuf [1, 0, 0, 1, 0, 1]) = .good { factoryOutCfg with enable := true, mode := .host, initialHigh := true }
      ∧ { tapC0 with header := PatHeader.empty }.header = PatHeader.empty := by decide

theorem witness_CommandBytesNameOrAreRefused :
    (cmdCode .readRecord = some 0x01#8 ∧ Instr.readRecord.wf = true)
      ∧ (cmdCode (.badCommand 0xFF) = some 0xFF#8 ∧ (Instr.badCommand 0xFF).wf = true)
      ∧ (Instr.reinit.isCmdByte = true
        ∧ (writing 0x0C (committing .erase NvBank.blank.unformatted BankRec.damaged)).WritesAt 0x0C#6
        ∧ (writing 0x0C (committing .erase NvBank.blank.unformatted BankRec.damaged)).engine.inFlight.isSome = true)
      ∧ isCommandCode 0x00 = false ∧ (offer 0 0 0 State.reset).Takes := by decide

/-- At the first register, at the last, and at CMD. -/
theorem witness_EveryDataByteAdvancesThePointer :
    (writing 0x00 State.reset).WritesAt 0x00#6 ∧ (writing 0x3F State.reset).WritesAt 0x3F#6
      ∧ (offer 0 0 0 State.reset).WritesAt 0x0C#6 ∧ (offer 0 0 0 State.reset).engine.inFlight = none := by decide

theorem witness_AddressPointerAndStop :
    State.reset.mode = .running ∧ (0x3A : BusAddr) = State.reset.port.inUse ∧ (0x3B : BusAddr) ≠ State.reset.port.inUse
      ∧ { State.reset with mode := .held false }.mode ≠ .running
      ∧ { State.reset.port with bus := .writePointer }.bus = .writePointer
      ∧ State.reset.port.waiting = none ∧ { State.reset.port with waiting := some 0x77 }.waiting = some 0x77#7 := by decide

/-- ARG0 to ARG2, the two ends of the record buffer, and registers without an action on both sides of 30h. -/
theorem witness_RegisterWritesStoreOrIgnore :
    ∀ a ∈ [0x10#6, 0x11, 0x12, 0x30, 0x3F, 0x00, 0x2F],
      (writing a State.reset).WritesAt a ∧ hasOwnRow a = false
        ∧ (a = 0x30#6 + BitVec.ofNat 6 (0 : Fin 16).val ∨ a = 0x30#6 + BitVec.ofNat 6 (15 : Fin 16).val
          ∨ a ∈ [0x10#6, 0x11, 0x12] ∨ a ∉ [0x10#6, 0x11, 0x12] ∧ a.toNat < 0x30) := by decide

/-- A first byte at a register that is read alone, a further byte at TIME, also of a used-up snapshot, and a first byte at HELD, TIME and
QUEUE_HEAD, of an empty queue and of one with a record. -/
theorem witness_ReadsReturnTheRegister :
    ((reading 0x3F State.reset).mode = .running ∧ (reading 0x3F State.reset).port.bus = .readFirst
        ∧ (reading 0x3F State.reset).port.snapshot = none
        ∧ (reading 0x3F State.reset).port.pointer ∉ [0x06#6, 0x08, 0x20])
      ∧ { (reading 0x08 State.reset).port with bus := .readMore }.bus = .readMore
      ∧ { (reading 0x08 State.reset).port with bus := .readMore, snapshot := some [] }.snapshot = some []
      ∧ (reading 0x06 State.reset).port.pointer = 0x06#6 ∧ (reading 0x08 State.reset).port.pointer = 0x08#6
      ∧ (reading 0x20 State.reset).port.pointer = 0x20#6 ∧ State.reset.report.records = []
      ∧ (reading 0x20 full).port.bus = .readFirst ∧ full.report.records ≠ [] := by decide

/-- A restore load, and none with and without an open build; the ends of the reserved addresses. -/
theorem witness_ReadsReturnTheRegister_window :
    (∃ x, { Engine.reset with inFlight := some (.restore .factory) }.inFlight = some (.restore x))
      ∧ (∀ x, full.engine.inFlight ≠ some (.restore x)) ∧ full.build = some 2 ∧ State.reset.build = none
      ∧ ∀ a ∈ [0x1B#6, 0x1F, 0x28, 0x2F], 0x1B ≤ a.toNat ∧ a.toNat ≤ 0x1F ∨ 0x28 ≤ a.toNat ∧ a.toNat ≤ 0x2F :=
  ⟨⟨_, rfl⟩, fun _ => nofun, by decide⟩

/-- Happenings of the part's blocks and of its store, in a state where a commit is in flight. -/
theorem witness_SnapshotBytesAreOfOneMoment :
    let s := { full with port := { full.port with bus := .readMore, snapshot := some [0x12] } }
    (∀ i ∈ [Instr.timeBaseTick, .scanResult 1000, .pulseEnd 5, .scanStart, .dueTimeTaken, .commitVerifyEnd false,
        .restoreLoadEnd, .eraseSecondBankEnd], i.isPartEvent = true)
      ∧ s.mode = .running ∧ s.port.bus = .readMore ∧ s.port.snapshot = some (0x12 :: []) := by decide

/-- R144, R148: the address of an image restored between the bytes waits on after the next byte. -/
theorem test_snapshot_keeps_waiting :
    (run .readByteTransmitted (run .restoreLoadEnd { State.reset with
      engine := { Engine.reset with status := .busy, inFlight := some (.restore .factory) }
      port := { State.reset.port with inUse := 0x51, bus := .readMore, snapshot := some [0x12] } })).port
      = { State.reset.port with inUse := 0x51, waiting := some 0x3A, bus := .readMore, snapshot := some []
                                sent := some 0x12, pointer := 1 } := by decide

theorem witness_FlagsMaskAndAttentionLine :
    (writing 0x04 full).WritesAt 0x04#6 ∧ (writing 0x05 full).WritesAt 0x05#6 := by decide

/-- 31 records, and 32. -/
theorem witness_PushesAppendOrAreCounted :
    { State.reset with report := { records := List.replicate 31 (.refused 0 0 0), lost := 0 } }.report.records.length < 32
      ∧ full.report.records.length = 32 := by decide

theorem witness_PopsRemoveTheHeadAndInsertLost :
    (writing 0x14 full).WritesAt 0x14#6 ∧ (0xFE#8).getLsbD 0 = false ∧ (0x01#8).getLsbD 0 = true
      ∧ State.reset.report.records = [] ∧ (writing 0x14 State.reset).WritesAt 0x14#6
      ∧ full.report.records = .refused 0 0 0 :: List.replicate 31 (.refused 0 0 0) ∧ full.report.lost ≠ 0
      ∧ State.reset.report.lost = 0 := by decide

/-- The full state with its queue full and LOST_COUNT 0, and QUEUE_CTL addressed: its result offers three records. -/
def popping : State :=
  { writing 0x14 full with report := { records := List.replicate 32 (.refused 0 0 0), lost := 0 } }

/-- R134: a pop before the three records, after the first of them, and after them all. -/
theorem test_pop_between :
    (run (.scanResult 1000 (some { after := 0, byte := 1 })) popping).report
        = { records := List.replicate 31 (.refused 0 0 0) ++ [.channel 0 (.release .natural) 384 334], lost := 2 }
      ∧ (run (.scanResult 1000 (some { after := 1, byte := 1 })) popping).report
        = { records := List.replicate 31 (.refused 0 0 0) ++ [.lost 1 385], lost := 2 }
      ∧ (run (.scanResult 1000 (some { after := 3, byte := 1 })) popping).report
        = { records := List.replicate 31 (.refused 0 0 0) ++ [.lost 3 385], lost := 0 } := by decide

/-- A pulse due at 50, at 50, at the last time at which it is reached, and a millisecond before 50. -/
theorem witness_PulseEndsAndHostLevels :
    { State.reset with outState := State.reset.outState.set 5 (.pulsing 50) }.outState[(5 : OutIdx)] = .pulsing 50
      ∧ ((50#32) - 50).toNat < 2 ^ 31 ∧ ((0x80000031#32) - 50).toNat < 2 ^ 31 ∧ 2 ^ 31 ≤ ((49#32) - 50).toNat
      ∧ (writing 0x16 full).WritesAt 0x16#6
      ∧ { State.reset.engine with inFlight := some (.restore .factory) }.inFlight = some (.restore .factory) := by decide

theorem witness_PulseEndsAndHostLevels_free :
    (∀ due, State.reset.outState[(5 : OutIdx)] ≠ .pulsing due)
      ∧ ∀ x, (writing 0x16 full).engine.inFlight ≠ some (.restore x) :=
  ⟨fun _ => nofun, fun _ => nofun⟩

/-- An action on output 0. -/
def onOut0 (op : ActionOp) : Action := { out := 0, op := op, pulseLen := 255, lastSet := 1, time := 400 }

/-- The environment of the full state with OUTPUT 0's record. -/
def envWith (c : OutCfg) : Env := { full.env with outCfg := full.env.outCfg.set 0 c }

/-- OUTPUT 0 not enabled, OFF, HOST, or a FOLLOW of no held channel; and each operation on an enabled PATTERN-mode
output, whose pulse end of 2950 is still to come at 385 and reached at 2950, with EXTEND and with KEEP. -/
theorem witness_ActionsLeadToTheirStates :
    let on : OutCfg := { factoryOutCfg with enable := true }
    (envWith factoryOutCfg).outCfg[(onOut0 .set).out].enable = false
      ∧ State.reset.recog.outs[(onOut0 .set).out] = .off
      ∧ (envWith { on with mode := .host }).outCfg[(onOut0 .set).out].mode = .host
      ∧ (onOut0 .follow).lastSet &&& State.reset.recog.held = 0
      ∧ (envWith on).outCfg[(onOut0 .set).out].enable = true ∧ full.recog.outs[(onOut0 .set).out] ≠ .off
      ∧ (envWith on).outCfg[(onOut0 .set).out].mode = .pattern
      ∧ (envWith on).outCfg[(onOut0 .pulse).out].retrigger = .extend
      ∧ (envWith { on with retrigger := .keep }).outCfg[(onOut0 .pulse).out].retrigger = .keep
      ∧ (onOut0 .follow).lastSet &&& full.recog.held ≠ 0
      ∧ (full.recog.setOut 0 (.pulsing 500)).outs[(onOut0 .pulse).out] = .pulsing 500
      ∧ ((2950#32) - ((onOut0 .pulse).time + BitVec.ofNat 32 (255 * 10))).toNat < 2 ^ 31
      ∧ ¬ ((385#32) - ((onOut0 .pulse).time + BitVec.ofNat 32 (255 * 10))).toNat < 2 ^ 31 := by decide

/-- An output that is OFF, and one that is not. -/
theorem witness_PinsFollowTheOutputs :
    State.reset.outState[(5 : OutIdx)] = .off ∧ full.outState[(0 : OutIdx)] = .following 1
      ∧ full.outCfg[(0 : OutIdx)] = { factoryOutCfg with enable := true } := by decide

/-! ## Witnesses: patterns and matcher -/

/-- A build of pattern P23 with some steps and a header, offered a command. -/
def building (h : PatHeader) (steps : List Step) (pool : Nat) : State :=
  offer 0 0 0 { State.reset with
    patDef := State.reset.patDef.set 23 { header := h, steps := steps, univ := 0 }
    patState := State.reset.patState.set 23 .building
    poolFree := pool
    build := some 23 }

/-- BEGIN_PATTERN of P23 in each clause. -/
theorem witness_BeginAndAppendBuildAPattern_begin :
    (offer 23 0 0 State.reset).Takes ∧ (offer 23 0 0 State.reset).engine.arg0 = BitVec.ofNat 8 (23 : PatIdx).val
      ∧ 24 ≤ (offer 24 0 0 State.reset).engine.arg0.toNat
      ∧ full.build = some 2 ∧ (2 : PatIdx) ≠ 23 ∧ State.reset.build = none
      ∧ (building PatHeader.empty [] 96).build = some 23 ∧ (building PatHeader.empty [] 96).patState[(23 : PatIdx)] ≠ .empty
      ∧ State.reset.patState[(23 : PatIdx)] = .empty
      ∧ readHeader (fillBuf [8]) = .bad 1
      ∧ readHeader (fillBuf [7, 0, 0, 0, 0, 0, 0, 0, 0, 0, 0xFF]) = .good { PatHeader.empty with priority := 7 } := by decide

/-- APPEND_STEP with 8 steps, with 7 and an empty pool, and with 7 and one free slot. -/
theorem witness_BeginAndAppendBuildAPattern_append :
    let tap := stepOf .tap 1 0 9 5
    let seven := building PatHeader.empty (List.replicate 7 tap)
    (offer 0 0 0 State.reset).Takes ∧ State.reset.build = none
      ∧ (building PatHeader.empty (List.replicate 8 tap) 1).Takes
      ∧ 8 ≤ (building PatHeader.empty (List.replicate 8 tap) 1).patDef[(23 : PatIdx)].steps.length
      ∧ (seven 0).patDef[(23 : PatIdx)].steps.length < 8 ∧ (seven 0).poolFree = 0 ∧ (seven 1).poolFree ≠ 0
      ∧ readStep (fillBuf [6]) (List.replicate 7 tap) = .bad 1
      ∧ readStep (fillBuf [2, 1, 0, 0, 9, 5]) (List.replicate 7 tap) = .good tap := by decide

/-- The first failing check is check `n`. -/
abbrev FirstFails (h : PatHeader) (steps : List Step) (n : Nat) : Prop :=
  EndCheckFails h steps n ∧ ∀ m, EndCheckFails h steps m → n ≤ m

/-- Check 1: no steps. -/
theorem witness_EndAndAbandonCloseTheBuild_one : FirstFails PatHeader.empty [] 1 :=
  ⟨rfl, fun m h => match m with
    | 0 => h.elim
    | _ + 1 => Nat.le_add_left ..⟩

/-- Check 2: a HOLD of channels that the CHORD before it does not hold. -/
theorem witness_EndAndAbandonCloseTheBuild_two :
    FirstFails PatHeader.empty [stepOf .chord 1 0 0 5, stepOf .hold 3 0 0 5] 2 := by
  refine ⟨⟨1, _, rfl, rfl, ?_⟩, fun m h => ?_⟩
  · rintro ⟨j, y, hj, hy, -, hc⟩
    obtain rfl : j = 0 := by omega
    cases hy
    revert hc
    decide
  · match m with
    | 0 => exact h.elim
    | 1 => cases h
    | _ + 2 => omega

/-- Check 3: a CHORD that the CHORD before it holds whole. -/
theorem witness_EndAndAbandonCloseTheBuild_three :
    FirstFails PatHeader.empty [stepOf .chord 3 0 0 5, stepOf .chord 2 0 9 5] 3 := by
  refine ⟨⟨0, _, _, rfl, rfl, rfl, .inl rfl, by decide⟩, fun m h => ?_⟩
  match m with
  | 0 => exact h.elim
  | 1 => cases h
  | 2 =>
    obtain ⟨i, x, hx, hk, -⟩ := h
    match i with
    | 0 | 1 => cases hx; cases hk
    | _ + 2 => cases hx
  | _ + 3 => omega

/-- None of the first three checks fails for a single TAP. -/
theorem single_tap_passes (h : PatHeader) (m : Nat) (hm : m ≤ 3) : ¬ EndCheckFails h [stepOf .tap 1 0 0 5] m := by
  intro hf
  match m with
  | 0 => exact hf.elim
  | 1 => cases hf
  | 2 =>
    obtain ⟨i, x, hx, hk, -⟩ := hf
    match i with
    | 0 => cases hx; cases hk
    | _ + 1 => cases hx
  | 3 => obtain ⟨i, x, y, hx, -⟩ := hf; cases hx

/-- Check 4: FOLLOW after a TAP. -/
theorem witness_EndAndAbandonCloseTheBuild_four :
    FirstFails { PatHeader.empty with actionOut := some 0, actionOp := .follow } [stepOf .tap 1 0 0 5] 4 := by
  refine ⟨⟨nofun, rfl, ?_⟩, fun m h => ?_⟩
  · rintro ⟨x, hx, hk⟩
    cases hx
    revert hk
    decide
  · exact Nat.lt_of_not_le fun hm => single_tap_passes _ m hm h

/-- Check 5: PULSE with PULSE_LEN 0. -/
theorem witness_EndAndAbandonCloseTheBuild_five :
    FirstFails { PatHeader.empty with actionOut := some 0, actionOp := .pulse } [stepOf .tap 1 0 0 5] 5 := by
  refine ⟨⟨nofun, rfl, rfl⟩, fun m h => ?_⟩
  refine Nat.lt_of_not_le fun hm => ?_
  rcases Nat.lt_or_eq_of_le hm with hl | rfl
  · exact single_tap_passes _ m (Nat.le_of_lt_succ hl) h
  · exact absurd h.2.1 nofun

/-- No check fails; the build is open; and it is closed. -/
theorem witness_EndAndAbandonCloseTheBuild_passes :
    (∀ n, ¬ EndCheckFails PatHeader.empty [stepOf .tap 1 0 0 5] n)
      ∧ (building PatHeader.empty [stepOf .tap 1 0 0 5] 95).Takes
      ∧ (building PatHeader.empty [stepOf .tap 1 0 0 5] 95).build = some 23
      ∧ (offer 0 0 0 State.reset).Takes ∧ (offer 0 0 0 State.reset).build = none := by
  refine ⟨fun n h => ?_, by decide⟩
  match n with
  | 0 | 1 | 2 | 3 => exact single_tap_passes _ _ (by omega) h
  | 4 | 5 => exact absurd h.1 (by decide)
  | _ + 6 => exact h

/-- P23 in every state, and index 24. -/
theorem witness_PatternCommandsActByState :
    24 ≤ (offer 24 0 0 State.reset).engine.arg0.toNat
      ∧ readHeader (fillBuf [0, 0, 0, 0, 0, 0, 0, 3]) = .bad 8
      ∧ readHeader (fillBuf [0, 0, 0, 0, 0, 0, 0, 2, 1, 255, 5, 4, 255])
        = .good { PatHeader.empty with rearm := .afterRelease, startEnabled := true, window := 255, actionOut := some 5
                                       actionOp := .follow, pulseLen := 255 }
      ∧ ∀ st ∈ [PatState.empty, .building, .disabled, .ready, .active, .spent, .locked],
        let s := offer 23 0 0 { State.reset with patState := State.reset.patState.set 23 st }
        s.Takes ∧ s.engine.arg0 = BitVec.ofNat 8 (23 : PatIdx).val ∧ st = s.patState[(23 : PatIdx)] := by decide

/-- No tracker other than that of slot `t` is PENDING. -/
theorem no_other_pending {trackers : Vector Tracker 6} {t : SlotIdx}
    (h : ∀ v : SlotIdx, v ≠ t → trackers[v].pending? = none) (v : SlotIdx) (x : Pending) (hv : v ≠ t) :
    trackers[v] ≠ .pending x := fun hx => by
  have := h v hv
  rw [hx] at this
  cases this

/-- P0 in slot 0 with no tracker PENDING; and P1, PENDING in slot 5 behind P0. -/
theorem witness_DisableCancelsAnActivePattern :
    ((offer 0 0 0 active).Takes ∧ (offer 0 0 0 active).BindingsOk
      ∧ (offer 0 0 0 active).engine.arg0 = BitVec.ofNat 8 (0 : PatIdx).val
      ∧ (offer 0 0 0 active).trackers[(0 : SlotIdx)].pattern = some 0)
      ∧ (∀ (v : SlotIdx) (x : Pending), v ≠ 0 → (offer 0 0 0 active).trackers[v] ≠ .pending x)
      ∧ full.BindingsOk ∧ full.trackers[(5 : SlotIdx)].pattern = some 1 :=
  ⟨by decide, no_other_pending (by decide), by decide⟩

/-- The full state with no command in flight. -/
def idleFull : State := offer 1 0 0 { full with engine := Engine.reset }

/-- A WAITING tracker in slot 0 and a PENDING one in slot 5, and their records. -/
theorem witness_FlushAndClear :
    idleFull.Takes ∧ idleFull.trackers[(5 : SlotIdx)].pattern = some 1
      ∧ ∃ cancelled : (Tracker → Bool) → List Record, (∀ f, cancelled f = (List.finRange 6).filterMap fun u =>
        if f idleFull.trackers[u] then idleFull.env.abortRecord idleFull.trackers .cancelled idleFull.time u else none)
        ∧ cancelled Tracker.isPending = [.aborted 1 9 0 .cancelled 385]
        ∧ cancelled Tracker.isWaiting = [.aborted 0 9 1 .cancelled 385] :=
  ⟨⟨⟨rfl, rfl, rfl⟩, rfl⟩, rfl, _, fun _ => rfl, by decide, by decide⟩

/-- P0 in slot 0 with one due time, at a time. -/
def dueAt (step : Option (DueKind × Time)) (overall : Option Time) (now : Time) : State :=
  { active with trackers := State.reset.trackers.set 0 (.waiting { tapped with stepDue := step, overallDue := overall })
                time := now }

/-- A due time at 400, taken from 401 to the last time at which it is passed, and neither at 400 nor before. -/
theorem witness_PassedDueTimesAbort :
    (∀ k ∈ [DueKind.late, .split, .long], (dueAt (some (k, 400)) none 401).trackers[(0 : SlotIdx)]
      = .waiting { tapped with stepDue := some (k, 400), overallDue := none })
      ∧ (dueAt none (some 400) 401).trackers[(0 : SlotIdx)] = .waiting { tapped with stepDue := none, overallDue := some 400 }
      ∧ (∀ u : SlotIdx, u ≠ 0 → (dueAt none none 0).trackers[u] = .free)
      ∧ (1 ≤ ((401#32) - 400).toNat ∧ ((0x8000018F#32) - 400).toNat < 2 ^ 31)
      ∧ 2 ^ 31 ≤ ((399#32) - 400).toNat :=
  ⟨fun _ _ => rfl, rfl, by decide, by decide, by decide⟩

/-- P0 in slot 0 on the first of some steps, a HOLD or QUIET end due at 400. -/
def endingStep (k : DueKind) (steps : List Step) (now : Time) : State :=
  { dueAt (some (k, 400)) none now with patDef := State.reset.patDef.set 0 (defOf 0 steps) }

/-- A satisfying due time at 400, at 400 and at the last time at which it is reached, and before 400; and each outcome:
a later step, an abort there, and a candidate. -/
theorem witness_PassedDueTimesAbort_satisfying :
    (∀ k ∈ [DueKind.holdEnd, .quietEnd], (endingStep k [stepOf .tap 1 0 0 5] 400).trackers[(0 : SlotIdx)]
        = .waiting { tapped with stepDue := some (k, 400), overallDue := none })
      ∧ ((400#32) - 400).toNat < 2 ^ 31 ∧ ((0x8000018F#32) - 400).toNat < 2 ^ 31 ∧ 2 ^ 31 ≤ ((0x80000190#32) - 400).toNat
      ∧ advance (defOf 0 [stepOf .tap 1 0 0 5, stepOf .quiet 0 0 0 5]) 0 400 tapped
        = .stay { tapped.onStep 1 400 with stepDue := some (.quietEnd, 450) }
      ∧ advance (defOf 0 [stepOf .tap 1 0 0 5, stepOf .hold 1 0 0 5]) 0 400 tapped = .abort (tapped.onStep 1 400) .holdLost 400
      ∧ advance (defOf 0 [stepOf .tap 1 0 0 5]) 0 400 tapped = .candidate tapped 400 :=
  ⟨fun _ _ => rfl, by decide⟩

/-- Two trackers: P0 in slot 0 with `a`, P1 in slot 1 with `b`, both of PRIORITY 0, each with an overall due time. -/
def twoDues (a b : DueKind) (d e overall : Time) (now : Time) : State :=
  { State.reset with
    patDef := (State.reset.patDef.set 0 (defOf 0 [stepOf .tap 1 0 0 5])).set 1 (defOf 0 [stepOf .tap 1 0 0 5])
    patState := (State.reset.patState.set 0 .active).set 1 .active
    trackers := (State.reset.trackers.set 0 (.waiting { tapped with stepDue := some (a, d), overallDue := some overall })).set
      1 (.waiting { tapped with pattern := 1, stepDue := some (b, e), overallDue := some overall })
    time := now }

/-- A due time of slot `u`, for `twoDues`. -/
theorem twoDues_dueNow {a b : DueKind} {d e overall now : Time} {u : SlotIdx} {kind : Option DueKind} {x : Time}
    (h : (twoDues a b d e overall now).DueNow u kind x) :
    u = 0 ∧ (kind = some a ∧ x = d ∨ kind = none ∧ x = overall) ∨ u = 1 ∧ (kind = some b ∧ x = e ∨ kind = none ∧ x = overall) := by
  obtain ⟨w, hw, hk, -⟩ := h
  have hs : ∀ v : SlotIdx, v ≠ 0 → v ≠ 1 → (twoDues a b d e overall now).trackers[v] = .free := by
    intro v h0 h1
    match v with
    | 0 => exact absurd rfl h0
    | 1 => exact absurd rfl h1
    | 2 | 3 | 4 | 5 => rfl
  by_cases h0 : u = 0
  · subst h0
    cases hw
    cases kind <;> simp_all
  · by_cases h1 : u = 1
    · subst h1
      cases hw
      cases kind <;> simp_all
    · rw [hs u h0 h1] at hw
      cases hw

/-- At one value: P1's HOLD_END before P0's LONG, and P0's LONG before P1's and before its own overall due time; and at
an earlier value P1's LONG before P0's HOLD_END. -/
theorem witness_PassedDueTimesAbort_order :
    (∀ n ∈ [(0, DueKind.long, DueKind.long, 400, 400, 400), (1, .long, .holdEnd, 400, 400, 400),
        (1, .holdEnd, .long, 400, 399, 400)],
      let s := twoDues n.2.1 n.2.2.1 n.2.2.2.1 n.2.2.2.2.1 n.2.2.2.2.2 401
      let t : SlotIdx := n.1
      let k := if t = 0 then n.2.1 else n.2.2.1
      let d := if t = 0 then n.2.2.2.1 else n.2.2.2.2.1
      s.DueNow t (some k) d ∧ ∀ (u : SlotIdx) (kind' : Option DueKind) (d' : Time), s.DueNow u kind' d' →
        (u, kind') ≠ (t, some k) → s.DueBefore t (some k) d u kind' d') := by
  intro n hn
  simp only [List.mem_cons, List.not_mem_nil, or_false] at hn
  obtain rfl | rfl | rfl := hn <;>
    (refine ⟨⟨_, rfl, rfl, by decide, by decide⟩, fun u kind' d' h hne => ?_⟩
     rcases twoDues_dueNow h with ⟨rfl, ⟨rfl, rfl⟩ | ⟨rfl, rfl⟩⟩ | ⟨rfl, ⟨rfl, rfl⟩ | ⟨rfl, rfl⟩⟩ <;>
       first | exact absurd rfl hne | (unfold State.DueBefore; decide))

/-- An event at `t` of C0. -/
def pressAt (t : Time) : Event := { chan := 0, press := true, time := t, cause := .natural, duration := 0 }

/-- A satisfying and an aborting due time that stage 1 leaves. -/
theorem witness_StageOneTakesEveryDueTimeBefore :
    (stage1 full.env (pressAt 499) full.recog).trackers[(0 : SlotIdx)] = .waiting holding
      ∧ holding.stepDue = some (.holdEnd, 500) ∧ holding.overallDue = some 900
      ∧ (stage1 active.env (pressAt 400) active.recog).trackers[(0 : SlotIdx)] = .waiting tapped
      ∧ tapped.stepDue = some (.long, 400) := by decide

/-- A PRESS and a RELEASE. -/
theorem witness_StageOneTakesEveryDueTimeBefore_stages :
    (pressAt 499).press = true ∧ { pressAt 499 with press := false }.press = false := by decide

theorem witness_CascadesEndWithinSixCompletions :
    full.recog.trackers[(0 : SlotIdx)].pattern = some 0 ∧ (5 : SlotIdx) ≠ 0
      ∧ full.recog.trackers[(5 : SlotIdx)] = .pending behind ∧ behind.blockers = 1#24 <<< (0 : PatIdx).val
      ∧ ∀ (v : SlotIdx) (y : Pending), v ≠ 0 → v ≠ 5 → full.recog.trackers[v] = .pending y → hasPat y.blockers 0 = false := by
  refine ⟨by decide, by decide, by decide, by decide, fun v y h0 h5 hy => ?_⟩
  have h : ∀ v : SlotIdx, v ≠ 0 → v ≠ 5 → full.recog.trackers[v].pending? = none := by decide
  have := h v h0 h5
  rw [hy] at this
  cases this

/-- P0 in slot 0, and P1, P2 and P3 PENDING behind it in slots 5, 3 and 1, P1 also behind P4; P2 and P3 of PRIORITY 0. -/
def threeBehind : Vector Tracker 6 :=
  (((State.reset.trackers.set 0 (.waiting holding)).set 1 (.pending { behind with pattern := 3 })).set 3
    (.pending { behind with pattern := 2 })).set 5 (.pending { behind with blockers := 0x11 })

/-- All patterns TAPs of C0 with PRIORITY `pr`, but for P`top` with PRIORITY 7. -/
def envOf (pr : Fin 8) (top : PatIdx) : Env :=
  { full.env with defs := (Vector.replicate 24 (defOf pr [stepOf .tap 1 0 0 5])).set top (defOf 7 [stepOf .tap 1 0 0 5]) }

/-- `Env.Releases`, each slot on its own. -/
theorem releases_of {e : Env} {trackers : Vector Tracker 6} {ends : SlotIdx → Bool} {gone : PatSet} {order : List SlotIdx}
    (h : ∀ u : SlotIdx, u ∈ order ↔ ends u = false ∧ ∃ x ∈ trackers[u].pending?, x.blockers ≠ 0 ∧ x.blockers &&& ~~~gone = 0)
    (k : order.Pairwise (e.SlotBefore trackers)) : e.Releases trackers ends gone order := ⟨h, k⟩

/-- None, and two released at one ending: at one PRIORITY the lower index first, and P3 first where it has PRIORITY 7. -/
theorem witness_CascadesEndWithinSixCompletions_several :
    full.recog.trackers[(0 : SlotIdx)].pattern = some 0
      ∧ (envOf 0 0).Releases threeBehind (fun u => u == 0) (1#24 <<< (0 : PatIdx).val) [3, 1]
      ∧ (envOf 0 3).Releases threeBehind (fun u => u == 0) (1#24 <<< (0 : PatIdx).val) [1, 3]
      ∧ (envOf 0 0).Releases threeBehind (fun u => u == 1) (1#24 <<< (3 : PatIdx).val) [] :=
  ⟨by decide, releases_of (by decide) (by decide), releases_of (by decide) (by decide),
    releases_of (by decide) (by decide)⟩

/-- R99: the released trackers complete in that order, behind the ending's own record. -/
theorem test_releases_in_order :
    (endTracker (envOf 0 3) 0 .late 400 .ready { full.recog with trackers := threeBehind }).offers
      = [.aborted 0 9 1 .late 400, .recognized 3 9 100 200 true false, .recognized 2 9 100 200 true false] := by decide

/-- Six WAITING trackers of P0 to P5, whose PRIORITY is `pr`, with START_TIMEs from FFFFFFFDh on. -/
def busySlots : Vector Tracker 6 := Vector.ofFn fun t : SlotIdx =>
  .waiting { tapped with pattern := ⟨t.val, by omega⟩, startTime := 0xFFFFFFFD#32 + BitVec.ofNat 32 t.val }

/-- All patterns TAPs of C0 with PRIORITY `pr`, but for P23 with PRIORITY 7. -/
def rankedEnv (pr : Fin 8) : Env :=
  { full.env with defs := (Vector.replicate 24 (defOf pr [stepOf .tap 1 0 0 5])).set 23 (defOf 7 [stepOf .tap 1 0 0 5]) }

/-- With PRIORITY 7 throughout there is no victim; with PRIORITY 6, the latest to start is. -/
theorem witness_BlockersAndVictims :
    (∀ (t : SlotIdx) (x : Waiting), busySlots[t] = .waiting x → (x.startTime - 0xFFFFFFFD#32).toNat < 2 ^ 31)
      ∧ victim (rankedEnv 7) 7 busySlots = none ∧ victim (rankedEnv 6) 7 busySlots = some 5
      ∧ hasPat (blockersOf full.env 1 full.trackers) 0 = true ∧ hasPat (blockersOf full.env 0 full.trackers) 1 = false := by
  refine ⟨fun t x h => ?_, by decide⟩
  simp only [busySlots, Vector.getElem_ofFn, Fin.getElem_fin, Tracker.waiting.injEq] at h
  subst h
  revert t
  decide

/-- A tracker on step 0 of some steps, since 1000. -/
def onStep (collected : ChanSet) (tap : Option Time) : Waiting :=
  { tapped with stepStart := 1000, collected := collected, tapPress := tap }

/-- A first step of a kind, of C0 and C11 or, a TAP, of C0, with EARLIEST 2. -/
def first (k : Kind) : Step := stepOf k (if k = .tap then 0x001 else 0x801) 2 9 5

/-- An event of a channel at a time. -/
def eventOf (c : Chan) (press : Bool) (t : Time) : Event := { chan := c, press := press, time := t, cause := .natural, duration := 0 }

/-- Presses on C0 and C11 (in the set), C1 (outside it), a channel already collected, a release of it; the judged time
of an event before STEP_START and at it; and times on both sides of the earliest time, 1020. -/
theorem witness_ChordAndTapStepsTakeEvents :
    (defOf 0 [first .chord]).steps[(onStep 0 none).step]? = some (first .chord) ∧ (first .chord).kind = .chord
      ∧ (defOf 0 [first .tap]).steps[(onStep 0 none).step]? = some (first .tap) ∧ (first .tap).kind = .tap
      ∧ hasChan (first .chord).channels 11 = true ∧ hasChan (onStep 1 none).collected 11 = false
      ∧ hasChan (first .chord).channels 1 = false ∧ hasChan (onStep 1 none).collected 0 = true
      ∧ (onStep 0 none).tapPress = none ∧ (onStep 0 (some 1020)).tapPress ≠ none ∧ hasChan (first .tap).channels 0 = true
      ∧ (1 ≤ ((onStep 0 none).stepStart - (eventOf 0 true 999).time).toNat
        ∧ ((onStep 0 none).stepStart - (eventOf 0 true 999).time).toNat < 2 ^ 31)
      ∧ ¬ 1 ≤ ((onStep 0 none).stepStart - (eventOf 0 true 1000).time).toNat
      ∧ 1 ≤ ((onStep 0 none).stepStart + BitVec.ofNat 32 ((first .tap).earliest * 10) - 1019).toNat
      ∧ ¬ 1 ≤ ((onStep 0 none).stepStart + BitVec.ofNat 32 ((first .tap).earliest * 10) - 1020).toNat := by decide

/-- Every kind of step, a channel in the set and one outside it, a synthetic and a natural release, and the last and
not the last channel of a LIFT let go. -/
theorem witness_HoldLiftAndQuietStepsTakeEvents :
    (∀ k ∈ [Kind.hold, .lift, .quiet], (defOf 0 [first k]).steps[(onStep 0 none).step]? = some (first k) ∧ (first k).kind = k)
      ∧ { eventOf 0 false 0 with cause := .recal }.cause ≠ .natural ∧ (eventOf 0 false 0).cause = .natural
      ∧ (defOf 0 [first .lift]).univ = 0x801#12 ∧ hasChan (first .lift).channels 0 = true
      ∧ hasChan (first .lift).channels 1 = false ∧ (first .lift).channels &&& 0x002#12 = 0
      ∧ (first .lift).channels &&& 0x800#12 ≠ 0 := by decide

/-- A PRESS of C1 at 400. -/
def pressC1 : Event := { chan := 1, press := true, time := 400, cause := .natural, duration := 0 }

/-- A PRESS of C1 that aborts no tracker of the full state; three candidates, one of which has ended, in priority-then-index
order of P1 (PRIORITY 7) and P0. -/
theorem witness_HoldLiftAndQuietStepsTakeEvents_stages :
    (∀ (t : SlotIdx) (x y : Waiting) (reason : Reason) (time : Time), full.recog.trackers[t] = .waiting x →
        offerEvent full.env.defs[x.pattern] full.recog.held pressC1 x ≠ .abort y reason time)
      ∧ ([(0, 100), (2, 200), (5, 300)].map Prod.fst : List SlotIdx).Nodup
      ∧ [((5 : SlotIdx), (300 : Time)), (0, 100)].Perm
        ([(0, 100), (2, 200), (5, 300)].filter fun c => full.recog.trackers[c.1].pattern.isSome)
      ∧ [((5 : SlotIdx), (300 : Time)), (0, 100)].Pairwise
        (fun c d => (envOf 0 1).SlotBefore full.recog.trackers c.1 d.1) := by
  refine ⟨fun t x y reason time h => ?_, by decide, by decide, by decide⟩
  have hs : ∀ u : SlotIdx, u ≠ 0 → full.recog.trackers[u].isWaiting = false := by decide
  by_cases h0 : t = 0
  · subst h0
    cases h
    exact nofun
  · have := hs t h0
    rw [h] at this
    cases this

/-- The last step; and each kind as the next one, with none, some and all of its set held. -/
theorem witness_SatisfiedStepsGiveWay :
    (defOf 0 [first .tap]).steps.length ≤ (onStep 0 none).step + 1
      ∧ (∀ k ∈ [Kind.chord, .tap, .hold, .lift, .quiet],
        (defOf 0 [first .tap, first k]).steps[(onStep 0 none).step + 1]? = some (first k) ∧ (first k).kind = k)
      ∧ ((first .chord).channels &&& 0x002#12 = 0 ∧ (first .chord).channels ≠ 0)
      ∧ ((first .chord).channels &&& 0x001#12 ≠ 0 ∧ (first .chord).channels &&& 0x001#12 ≠ (first .chord).channels)
      ∧ (first .chord).channels &&& 0x801#12 = (first .chord).channels
      ∧ (first .lift).channels &&& 0x001#12 ≠ 0 ∧ (first .lift).channels &&& 0x002#12 = 0 := by decide

/-- A press of C0 is confirmed while P23, whose first step holds it, is READY and no other pattern is. -/
def starting (x : Step) : State :=
  let s := scanning 0xFFFFFFF0 factoryChanCfg { live .arming with debounce := 1 }
  { s with patDef := s.patDef.set 23 (defOf 0 [x]), patState := s.patState.set 23 .ready, poolFree := 95 }

theorem witness_PressesStartReadyPatterns_start :
    (∀ x ∈ [stepOf .tap 1 0 0 5, stepOf .chord 3 0 0 5],
      (starting x).Delivers 0xFFFFFFF0 [0] 0 [] ∧ (starting x).NoTracker ∧ (starting x).patState[(23 : PatIdx)] = .ready
        ∧ (∀ q : PatIdx, q ≠ 23 → (starting x).patState[q] ≠ .ready)
        ∧ (starting x).patDef[(23 : PatIdx)].steps = x :: [] ∧ hasChan x.channels 0 = true)
      ∧ Counts { live .arming with debounce := 1 } 1120
      ∧ (factoryChanCfg.touch : Int) ≤ (1120 : Fin 4096).val - (live .arming).baseline
      ∧ factoryChanCfg.pressDb ≤ 1 + 1
      ∧ (stepOf .chord 3 0 0 5).channels &&& (0 ||| 1#12 <<< (0 : Chan).val) ≠ (stepOf .chord 3 0 0 5).channels := by decide

/-- A CHORD that C0's press completes, and each of the three outcomes: a candidate, a later step, an abort there. -/
theorem witness_PressesStartReadyPatterns_complete :
    let w : Waiting := { tapped with pattern := 23, startTime := 0xFFFFFFF0, stepStart := 0xFFFFFFF0, tapPress := none, stepDue := none
                                     collected := 1, chordStart := some 0xFFFFFFF0 }
    let x := stepOf .chord 1 0 0 5
    x.channels &&& (0 ||| 1#12 <<< (0 : Chan).val) = x.channels
      ∧ (starting x).patDef[(23 : PatIdx)].steps = x :: [] ∧ (starting x).Delivers 0xFFFFFFF0 [0] 0 []
      ∧ advance (defOf 0 [x]) 1 0xFFFFFFF0 w = .candidate w 0xFFFFFFF0
      ∧ advance (defOf 0 [x, stepOf .hold 1 0 0 1]) 1 0xFFFFFFF0 w
        = .stay { w.onStep 1 0xFFFFFFF0 with stepDue := some (.holdEnd, 0xFFFFFFFA) }
      ∧ advance (defOf 0 [x, stepOf .lift 2 1 9 0]) 1 0xFFFFFFF0 w = .abort (w.onStep 1 0xFFFFFFF0) .early 0xFFFFFFF0 := by
  decide

/-- All 24 patterns of PRIORITY 7, in index order; and with P23 alone of PRIORITY 7, P23 first. -/
theorem witness_PressesStartReadyPatterns_turns :
    (pressAt 0).press = true
      ∧ (∀ p : PatIdx, p ∈ List.finRange 24)
      ∧ (List.finRange 24).Pairwise (fun p q => (rankedEnv 7).defs[q].header.priority < (rankedEnv 7).defs[p].header.priority
        ∨ (rankedEnv 7).defs[q].header.priority = (rankedEnv 7).defs[p].header.priority ∧ p < q)
      ∧ (23 :: (List.finRange 24).take 23).Pairwise (fun p q =>
        (rankedEnv 6).defs[q].header.priority < (rankedEnv 6).defs[p].header.priority
        ∨ (rankedEnv 6).defs[q].header.priority = (rankedEnv 6).defs[p].header.priority ∧ p < q) :=
  ⟨rfl, fun _ => List.mem_finRange _, by decide, by decide⟩

/-- Six slots in use by patterns of PRIORITY 7 and of PRIORITY 6, and a start of P23 with PRIORITY 7. -/
theorem witness_PressesStartReadyPatterns_full :
    (∀ u : SlotIdx, { full.recog with trackers := busySlots }.trackers[u] ≠ .free)
      ∧ victim (rankedEnv 7) (rankedEnv 7).defs[(23 : PatIdx)].header.priority busySlots = none
      ∧ victim (rankedEnv 6) (rankedEnv 6).defs[(23 : PatIdx)].header.priority busySlots = some 5
      ∧ busySlots[(5 : SlotIdx)].pattern = some 5
      ∧ (∀ (u : SlotIdx) (y : Pending), { full.recog with trackers := busySlots }.trackers[u] ≠ .pending y)
      ∧ (rankedEnv 6).defs[(23 : PatIdx)].univ &&& { full.recog with trackers := busySlots }.claimed = 0 := by
  refine ⟨by decide, by decide, by decide, by decide, fun u y h => ?_, by decide⟩
  have hp : ∀ v : SlotIdx, busySlots[v].pending? = none := by decide
  have := hp u
  rw [show busySlots[u] = .pending y from h] at this
  cases this

/-- P0 as a candidate with P1 PENDING behind it, and P1 as a candidate with P0 as its blocker; a completion of P0 with
no other slot bound to it. -/
theorem witness_CompletionsRecordActAndRearm :
    full.recog.trackers[(0 : SlotIdx)] = .waiting holding
      ∧ (blockersOf (rankedEnv 6) 0 (busySlots.set 1 (.waiting { tapped with pattern := 23 })) ≠ 0
        ∧ (rankedEnv 6).defs[(0 : PatIdx)].header.defer = true)
      ∧ active.recog.trackers[(0 : SlotIdx)].pattern = some 0
      ∧ ∀ u : SlotIdx, u ≠ 0 → active.recog.trackers[u].pattern ≠ some 0 := by decide

/-- A TAP of C0 with CLAIM. -/
def claimC0 : PatDef := { tapC0 with header := { tapC0.header with claim := true } }

/-- The definitions of `envOf 0 3`, with CLAIM in P0's, and P2 on another channel. -/
def claimingEnv : Env :=
  { envOf 0 3 with defs := ((envOf 0 3).defs.set 0 claimC0).set 2 (defOf 0 [stepOf .tap 2 0 0 5]) }

/-- The slots of P1 and P3. -/
def groupOf (u : SlotIdx) : Bool := u == 1 || u == 5

/-- P0 completes with P1, P2 and P3 PENDING behind it. Without CLAIM it ends none of them, and it releases P3 and P2;
with CLAIM it cancels P3 and P1, which overlap it, and releases P2. -/
theorem witness_CompletionsRecordActAndRearm_cascade :
    threeBehind[(0 : SlotIdx)].pattern = some 0 ∧ (∀ u : SlotIdx, u ≠ 0 → threeBehind[u].pattern ≠ some 0)
      ∧ ((∀ u : SlotIdx, false = true ↔ (envOf 0 3).defs[(0 : PatIdx)].header.claim = true ∧ u ≠ 0
          ∧ ∃ q ∈ threeBehind[u].pattern, (envOf 0 3).defs[q].univ &&& (envOf 0 3).defs[(0 : PatIdx)].univ ≠ 0)
        ∧ (∀ q : PatIdx, hasPat 1 q = true ↔ q = 0 ∨ ∃ u : SlotIdx, false = true ∧ threeBehind[u].pattern = some q)
        ∧ (envOf 0 3).Releases threeBehind (fun u => u == 0 || false) 1 [1, 3])
      ∧ (∀ u : SlotIdx, groupOf u = true ↔ claimingEnv.defs[(0 : PatIdx)].header.claim = true ∧ u ≠ 0
          ∧ ∃ q ∈ threeBehind[u].pattern, claimingEnv.defs[q].univ &&& claimingEnv.defs[(0 : PatIdx)].univ ≠ 0)
      ∧ (∀ q : PatIdx, hasPat 0xB q = true ↔ q = 0 ∨ ∃ u : SlotIdx, groupOf u = true ∧ threeBehind[u].pattern = some q)
      ∧ claimingEnv.Releases threeBehind (fun u => u == 0 || groupOf u) 0xB [3] :=
  ⟨by decide, by decide, ⟨by decide, by decide, releases_of (by decide) (by decide)⟩, by decide, by decide,
    releases_of (by decide) (by decide)⟩

/-- R94, R97, R98: the claim's records in ascending slot order, and then the completion it releases. -/
theorem test_claim_records :
    (complete claimingEnv 6 0 350 false 400 { full.recog with trackers := threeBehind }).offers
      = [.recognized 0 7 100 350 false false, .aborted 3 9 0 .superseded 400, .aborted 1 9 0 .superseded 400,
        .recognized 2 9 100 200 true false] := by decide

/-! ## Witnesses: resets, loads and the configuration store -/

/-- Running and loading, held, without supply, and with REINIT taken; and an erase of either kind cut off. -/
theorem witness_ResetsAbandonTheWorkInFlight :
    (offer 0 0 0 State.reset).Takes ∧ State.reset.mode = .running
      ∧ { State.reset with mode := .loading .pin }.mode = .loading .pin
      ∧ { State.reset with mode := .held true }.mode = .held true
      ∧ { State.reset with mode := .unpowered }.mode = .unpowered
      ∧ (committing .erase NvBank.blank.unformatted BankRec.damaged).engine.inFlight = some (.commit .erase .a 1 factoryImage)
      ∧ { Engine.reset with inFlight := some (.erase .b none) }.inFlight = some (.erase .b none) := by decide

theorem witness_ResetsAbandonTheWorkInFlight_running : ∀ waits, State.reset.mode ≠ .held waits := fun _ => nofun

theorem witness_StartUpLoadsApplyTheCurrentImage :
    { State.reset with mode := .loading .reinit }.mode = .loading .reinit
      ∧ State.reset.rstLow = false ∧ State.reset.engine.inFlight = none
      ∧ State.reset.store.nv = { a := NvBank.blank, b := NvBank.blank } := by decide

/-- A store record with two banks. -/
def storeOf (a b : BankRec) : Store := { State.reset.store with record := { a := a, b := b } }

/-- A VALID bank with a generation. -/
def validRec (g : BitVec 16) : BankRec := { state := .valid, generation := g }

/-- One VALID bank, none, and two with B ahead by 1, by 32767 and by 32768; COMMIT taken with a build open and with
none, from each current bank. -/
theorem witness_CommitsTakeTheBankNotCurrent :
    ((storeOf (validRec 1) BankRec.damaged).record.a.state = .valid ∧ (storeOf (validRec 1) BankRec.damaged).record.b.state ≠ .valid)
      ∧ ((storeOf BankRec.blank (validRec 1)).record.a.state ≠ .valid ∧ (storeOf BankRec.blank (validRec 1)).record.b.state = .valid)
      ∧ (1 ≤ ((0#16) - 0xFFFF).toNat ∧ ((0x7FFE#16) - 0xFFFF).toNat ≤ 32767 ∧ ¬ ((0x7FFF#16) - 0xFFFF).toNat ≤ 32767)
      ∧ (storeOf (validRec 0xFFFF) (validRec 0)).current = some .b
      ∧ (storeOf (validRec 0xFFFF) (validRec 0x7FFF)).current = some .a
      ∧ State.reset.store.current = none
      ∧ (offer 0 0 0 State.reset).Takes ∧ (offer 0 0 0 State.reset).build = none
      ∧ (building PatHeader.empty [] 96).Takes ∧ (building PatHeader.empty [] 96).build = some 23 := by decide

/-- Every phase, and what `failed` is. -/
theorem witness_CommitPhasesEndInOrder (s : State) (t : BankId) :
    (∀ ph, (committing ph NvBank.blank BankRec.blank).engine.inFlight = some (.commit ph .a 1 factoryImage))
      ∧ ∃ failed : State → Prop, ∀ u, failed u ↔ ∃ n : NvBank, n.judge = .damaged ∧ u = { s with
        store := { s.store with
          nv := s.store.nv.put t n
          record := s.store.record.put t { state := .damaged, generation := 0 } }
        engine := { s.engine with status := .error, result := .storeFailed, detail := 0, inFlight := none }
        flags := s.flags ||| 0x21#6 } :=
  ⟨fun _ => rfl, _, fun _ => Iff.rfl⟩

/-- A commit into B cut off before and after its check value word, with A current; and one into A with no bank current
cut off in its erase: by loss of power and by RST_N. -/
theorem witness_InterruptedCommitsKeepAnImage :
    (full.mode = .running ∧ full.rstLow = false ∧ full.StoreOk ∧ full.engine.inFlight = some (.commit .verify .b 0 factoryImage))
      ∧ (committing (.seal true) (NvBank.sealed 1 factoryImage) BankRec.damaged).StoreOk
      ∧ (committing .erase NvBank.blank.unformatted BankRec.damaged).StoreOk
      ∧ (∃ u, execAll [.lossOfPower false, .powerOn false, .startUpLoadEnd true] full = .next u)
      ∧ (∃ u, execAll [.rstNAssert true, .rstNRelease, .startUpLoadEnd false]
        (committing .erase NvBank.blank.unformatted BankRec.damaged) = .next u) :=
  ⟨by decide, by decide, by decide, ⟨_, rfl⟩, ⟨_, rfl⟩⟩

theorem witness_RestoresReplaceTheConfiguration :
    (offer 0 0 0 State.reset).Takes ∧ (offer 0 0 0 State.reset).store.current = none
      ∧ full.store.current = some .a
      ∧ { Engine.reset with inFlight := some (.restore (.bank .b)) }.inFlight = some (.restore (.bank .b)) := by decide

theorem witness_RestoresReplaceTheConfiguration_none : ∀ x, State.reset.engine.inFlight ≠ some (.restore x) :=
  fun _ => nofun

/-- Both banks BLANK; the one that is not current VALID or DAMAGED; only the current one not BLANK; and both turns. -/
theorem witness_EraseStoredBlanksBothBanks :
    (offer 0 0 0 State.reset).Takes ∧ BankId.b = BankId.other .a ∧ State.reset.store.current ≠ some .a
      ∧ (State.reset.store.record.get .a).state = .blank ∧ (State.reset.store.record.get .b).state = .blank
      ∧ (storeOf (validRec 0) BankRec.damaged).current = some .a
      ∧ ((storeOf (validRec 0) BankRec.damaged).record.get .b).state ≠ .blank
      ∧ ((storeOf (validRec 0) BankRec.blank).record.get .b).state = .blank
      ∧ ((storeOf (validRec 0) BankRec.blank).record.get .a).state ≠ .blank
      ∧ { Engine.reset with inFlight := some (.erase .b (some .a)) }.inFlight = some (.erase .b (some .a))
      ∧ { Engine.reset with inFlight := some (.erase .a none) }.inFlight = some (.erase .a none) := by decide

end Sys2Proof.Tests
end

section
/-! PROOF. O42: what REVISE_PATTERN, DELETE_PATTERN, ENABLE_PATTERN, DISABLE_PATTERN and ARM_PATTERN do
(03_patterns_and_the_step_pool.md, section 3.6). First what stands before each of them (the byte is taken, ARG0 is
judged); then one equation per command by the state of its pattern, in any state of the part; then the obligation. -/

namespace Sys2Proof.Machine

/-! ## A pattern command up to its own work -/

/-- R145, R150: the state once the byte `code` written to CMD was acknowledged and taken. -/
def State.taken (s : State) (code : Byte) : State := { s.acked with engine := { s.engine with cmd := code } }

/-- R48 to R57: a command of section 3.6 whose ARG0 names pattern `p` does its work there. -/
theorem cmdByte_onPattern {s : State} {p : PatIdx} (code : Byte) (f : PatIdx → State → State) (hs : s.Takes)
    (hp : s.engine.arg0 = BitVec.ofNat 8 p.val) : cmdByte code (fun v => v.onPattern f) s = f p (s.taken code) := by
  rw [cmdByte_takes hs]
  exact State.onPattern_ofNat f hp

/-- R48 to R57: a command of section 3.6 whose ARG0 names no pattern is refused. -/
theorem cmdByte_onPattern_badIndex {s : State} (code : Byte) (f : PatIdx → State → State) (hs : s.Takes)
    (hi : 24 ≤ s.engine.arg0.toNat) : cmdByte code (fun v => v.onPattern f) s = s.posted code .badIndex 0 := by
  rw [cmdByte_takes hs]
  exact State.onPattern_none (s := s.taken code) f hi

/-! ## REVISE_PATTERN (R52) -/

/-- R49, check 4. -/
theorem followAllowed_eq_false_iff (h : PatHeader) (steps : List Step) :
    followAllowed h steps = false ↔
      h.actionOut ≠ none ∧ h.actionOp = .follow ∧ ¬ ∃ x ∈ steps.getLast?, x.kind ∈ [Kind.chord, .hold] := by
  cases hl : steps.getLast? <;>
    simp [followAllowed, chooses, holdsOn, hl, Option.isSome_iff_ne_none, and_assoc]

/-- R49, check 5. -/
theorem pulseAllowed_eq_false_iff (h : PatHeader) :
    pulseAllowed h = false ↔ h.actionOut ≠ none ∧ h.actionOp = .pulse ∧ h.pulseLen = 0 := by
  simp [pulseAllowed, chooses, Option.isSome_iff_ne_none, and_assoc]

theorem reviseAt_not_disabled {s : State} {p : PatIdx} (hst : s.patState[p] ≠ .disabled) :
    reviseAt p s = s.postResult .badState 0 := if_pos hst

theorem reviseAt_bad {s : State} {p : PatIdx} {n : Nat} (hst : s.patState[p] = .disabled)
    (hn : readHeader s.engine.buf = .bad n) : reviseAt p s = s.postResult .badValue (BitVec.ofNat 8 n) := by
  simp [reviseAt, hst, hn, byteOf]

theorem reviseAt_good {s : State} {p : PatIdx} {d : PatDef} {h : PatHeader} (hd : d = s.patDef[p])
    (hst : s.patState[p] = .disabled) (hh : readHeader s.engine.buf = .good h) :
    reviseAt p s =
      if h.actionOut ≠ none ∧ h.actionOp = .follow ∧ ¬ (∃ x ∈ d.steps.getLast?, x.kind ∈ [Kind.chord, .hold]) then
        s.postResult .invalidPattern 4
      else if h.actionOut ≠ none ∧ h.actionOp = .pulse ∧ h.pulseLen = 0 then s.postResult .invalidPattern 5
      else { s with patDef := s.patDef.set p { d with header := h } }.postOk := by
  subst hd
  simp only [reviseAt, hst, hh, ne_eq, not_true_eq_false, if_false, Bool.not_eq_true', followAllowed_eq_false_iff,
    pulseAllowed_eq_false_iff]

/-! ## DELETE_PATTERN, ENABLE_PATTERN, DISABLE_PATTERN and ARM_PATTERN (R53 to R57) -/

theorem deleteAt_eq (p : PatIdx) (s : State) :
    deleteAt p s = if s.patState[p] = .disabled then (s.emptyPattern p).postOk
      else s.postResult (if s.patState[p] = .empty then .ok else .badState) 0 := by
  unfold deleteAt
  cases s.patState[p] <;> rfl

theorem enableAt_eq (p : PatIdx) (s : State) :
    enableAt p s = if s.patState[p] = .disabled then (s.setPatState p .ready).postOk
      else s.postResult (if s.patState[p] = .empty ∨ s.patState[p] = .building then .badState else .ok) 0 := by
  unfold enableAt
  cases s.patState[p] <;> rfl

theorem disableAt_not_active {p : PatIdx} {s : State} (hst : s.patState[p] ≠ .active) :
    disableAt p s = if s.patState[p] = .empty ∨ s.patState[p] = .building then s.postResult .badState 0
      else if s.patState[p] = .disabled then s.postOk
      else (s.setPatState p .disabled).postOk := by
  unfold disableAt
  cases h : s.patState[p]
  case active => exact absurd h hst
  all_goals rfl

theorem armAt_eq (p : PatIdx) (s : State) :
    armAt p s = if s.patState[p] = .spent ∨ s.patState[p] = .locked then (s.setPatState p .ready).postOk
      else s.postResult .badState 0 := by
  unfold armAt
  cases s.patState[p] <;> rfl

/-! ## The commands by the state of the pattern -/

/-- Settles O42: ARG0 is judged first; each command then acts as the equation of its work says. -/
theorem patternCommandsActByState : Obligations.PatternCommandsActByState := by
  intro s hs
  constructor
  · intro hi
    have refused (code : Byte) (f : PatIdx → State → State) :
        (.next (cmdByte code (fun v => v.onPattern f) s) : Host.Outcome State Fault Refusal)
          = .next (s.posted code .badIndex 0) :=
      congrArg _ (cmdByte_onPattern_badIndex code f hs hi)
    exact ⟨refused 0x14 reviseAt, refused 0x15 deleteAt, refused 0x16 enableAt, refused 0x17 disableAt,
      refused 0x18 armAt⟩
  · rintro p d st hp rfl rfl
    have works (code : Byte) (f : PatIdx → State → State) (t : State) (ht : f p (s.taken code) = t) :
        (.next (cmdByte code (fun v => v.onPattern f) s) : Host.Outcome State Fault Refusal) = .next t :=
      congrArg _ ((cmdByte_onPattern code f hs hp).trans ht)
    exact ⟨fun hst => works _ _ _ (reviseAt_not_disabled hst),
      fun hst => ⟨fun n hn => works _ _ _ (reviseAt_bad hst hn), fun h hh => works _ _ _ (reviseAt_good rfl hst hh)⟩,
      works _ _ _ (deleteAt_eq p _), works _ _ _ (enableAt_eq p _),
      fun hst => works _ _ _ (disableAt_not_active hst), works _ _ _ (armAt_eq p _)⟩

end Sys2Proof.Machine
end

section
/-! PROOF. O39: the pin and the OUT_STATE bit of an output (06_outputs.md, section 6.2). First what its state counts as
(R114), then the drive of a pin by the columns of R114's table, then the bits of OUT_STATE (R115). -/

namespace Sys2Proof.Machine

/-! ## The pin (R114) -/

/-- R114: HIGH, PULSING and FOLLOWING are active. -/
theorem OutState.active_iff (x : OutState) : x.active = true ↔ x ≠ .off ∧ x ≠ .low := by
  cases x <;> simp [OutState.active]

theorem pinDrive_off (c : OutCfg) : pinDrive c .off = .highZ := rfl

/-- R114: POLARITY does not change the drive of an open-drain pin. -/
theorem pinDrive_openDrain {c : OutCfg} {x : OutState} (hc : c.drive = .openDrain) (hx : x ≠ .off) :
    pinDrive c x = if x = .low then .released else .driveLow := by
  unfold pinDrive
  rw [hc]
  cases x
  case off => exact absurd rfl hx
  all_goals rfl

/-- R114: a push-pull pin is driven low while its output is inactive under ACTIVE_HIGH or active under ACTIVE_LOW. -/
theorem pinDrive_pushPull {c : OutCfg} {x : OutState} (hc : c.drive = .pushPull) (hx : x ≠ .off) :
    pinDrive c x = if x = .low ↔ c.polarity = .activeHigh then .driveLow else .driveHigh := by
  unfold pinDrive
  rw [hc]
  cases x
  case off => exact absurd rfl hx
  all_goals cases c.polarity <;> rfl

/-- R114: the whole table. -/
theorem pinDrive_eq (c : OutCfg) (x : OutState) :
    pinDrive c x = if x = .off then .highZ
      else if c.drive = .openDrain then (if x = .low then .released else .driveLow)
      else if x = .low ↔ c.polarity = .activeHigh then .driveLow else .driveHigh := by
  by_cases hx : x = .off
  · rw [if_pos hx, hx, pinDrive_off]
  · rw [if_neg hx]
    cases hd : c.drive with
    | openDrain => rw [if_pos rfl, pinDrive_openDrain hd hx]
    | pushPull => rw [if_neg nofun, pinDrive_pushPull hd hx]

/-! ## OUT_STATE (R115) -/

theorem getLsbD_one_shiftLeft {i k : Nat} (hk : k < 8) : (1#8 <<< i).getLsbD k = true ↔ i = k := by
  simp [hk]
  omega

/-- A byte built by raising bit `i` for each listed index that is wanted. -/
theorem getLsbD_foldl_raiseBit {n : Nat} (want : Fin n → Bool) (l : List (Fin n)) (acc : Byte) {k : Nat} (hk : k < 8) :
    (l.foldl (fun acc i => if want i then acc ||| (1#8 <<< i.val) else acc) acc).getLsbD k = true ↔
      acc.getLsbD k = true ∨ ∃ i ∈ l, i.val = k ∧ want i = true := by
  induction l generalizing acc with
  | nil => simp
  | cons i l ih =>
    have raised : (acc ||| (1#8 <<< i.val)).getLsbD k = true ↔ acc.getLsbD k = true ∨ i.val = k := by
      rw [BitVec.getLsbD_or, Bool.or_eq_true, getLsbD_one_shiftLeft hk]
    rw [List.foldl_cons, ih, List.exists_mem_cons_iff]
    by_cases hi : want i = true
    · rw [if_pos hi, raised]
      simp only [hi, and_true, or_assoc]
    · simp [hi]

/-- R115: bit n of OUT_STATE is there for OUTn alone. -/
theorem State.getLsbD_outStateBits (s : State) {k : Nat} (hk : k < 8) :
    s.outStateBits.getLsbD k = true ↔ ∃ o : OutIdx, o.val = k ∧ s.outState[o].active = true := by
  unfold State.outStateBits
  rw [getLsbD_foldl_raiseBit _ _ _ hk]
  simp [allOuts]

theorem State.outStateBits_output (s : State) (o : OutIdx) :
    s.outStateBits.getLsbD o.val = s.outState[o].active := by
  rw [Bool.eq_iff_iff, s.getLsbD_outStateBits (by omega)]
  constructor
  · rintro ⟨i, hi, hact⟩
    rwa [← Fin.ext hi]
  · exact fun hact => ⟨o, rfl, hact⟩

theorem State.outStateBits_noOutput (s : State) {k : Nat} (hlo : 6 ≤ k) (hk : k < 8) :
    s.outStateBits.getLsbD k = false := by
  rw [Bool.eq_false_iff, ne_eq, s.getLsbD_outStateBits hk]
  rintro ⟨i, hi, -⟩
  omega

theorem State.readReg_outState (s : State) : s.readReg 0x17#6 = s.outStateBits := rfl

/-! ## The pin and the bit together -/

/-- Settles O39: R114's table column by column, then the bits of R115. -/
theorem pinsFollowTheOutputs : Obligations.PinsFollowTheOutputs := by
  rintro s o c x rfl rfl
  rw [s.readReg_outState]
  have bit : s.outStateBits.getLsbD o.val = true ↔ s.outState[o] ≠ .off ∧ s.outState[o] ≠ .low := by
    rw [s.outStateBits_output, OutState.active_iff]
  exact ⟨pinDrive_eq _ _, bit, s.outStateBits_noOutput (by decide) (by decide),
    s.outStateBits_noOutput (by decide) (by decide)⟩

end Sys2Proof.Machine
end

section
/-! PROOF. O35: a push of a record (07_report_queue_and_attention.md), by the room the queue has. -/

namespace Sys2Proof.Machine

/-- R137: QUEUE_LOST is bit 4 of FLAGS. -/
theorem raiseFlag_queueLost (flags : BitVec 6) : raiseFlag .queueLost flags = flags ||| 0x10#6 := rfl

/-- Settles O35, by the two rows of R129's table: a queue with room, and a queue that holds 32 records. -/
theorem pushesAppendOrAreCounted : Obligations.PushesAppendOrAreCounted := by
  intro s r
  constructor
  · intro room
    exact s.push_room r room
  · intro full
    have noRoom : ¬ s.report.records.length < 32 := by omega
    rw [s.push_full r noRoom, raiseFlag_queueLost]

end Sys2Proof.Machine
end

section
/-! PROOF. O28: the bytes of CMD (08_host_port_and_command_engine.md, section 8.5; 10_register_and_record_formats.md,
section 10.3.1). First the codes and what every other byte offers, then the correspondence of codes and commands, then
the byte itself: whatever command it offers, it acts through `cmdByte`. -/

namespace Sys2Proof

/-! ## The codes of section 10.3.1 -/

/-- The codes in the order of section 10.3.1. -/
def commandCodes : List Byte :=
  [0x01#8, 0x02, 0x10, 0x11, 0x12, 0x13, 0x14, 0x15, 0x16, 0x17, 0x18, 0x20, 0x28, 0x29, 0x2A, 0x30, 0x40, 0x41, 0x42,
    0x43, 0x4F]

/-- R150: a byte that is none of the codes is offered as BAD_COMMAND. -/
theorem cmdRow_not_mem {b : Byte} (hb : b ∉ commandCodes) : cmdRow b = .badCommand b := by
  have code : BitVec.ofNat 8 b.toNat ∉ commandCodes := by simpa using hb
  unfold cmdRow
  split
  case h_22 => rfl
  all_goals
    next hk =>
      rw [hk] at code
      exact absurd (by decide) code

theorem isCommandCode_iff (b : Byte) : isCommandCode b = true ↔ b ∈ commandCodes := by
  constructor
  · intro hc
    by_contra hb
    simp [isCommandCode, cmdRow_not_mem hb] at hc
  · revert b
    decide

theorem cmdRow_not_code {b : Byte} (hb : isCommandCode b = false) : cmdRow b = .badCommand b :=
  cmdRow_not_mem fun hm => by simp [(isCommandCode_iff b).2 hm] at hb

/-! ## Codes and commands -/

/-- A byte offers a command whose code it is: a code by its row of the table, any other byte as itself. -/
theorem cmdCode_cmdRow (b : Byte) : cmdCode (cmdRow b) = some b ∧ (cmdRow b).wf = true := by
  cases hb : isCommandCode b with
  | false => simp [cmdRow_not_code hb, cmdCode, Instr.wf, hb]
  | true =>
    have codes : ∀ c ∈ commandCodes, cmdCode (cmdRow c) = some c ∧ (cmdRow c).wf = true := by decide
    exact codes b ((isCommandCode_iff b).1 hb)

theorem Instr.wf_badCommand_iff (b : Byte) : (Instr.badCommand b).wf = true ↔ isCommandCode b = false := by
  simp [Instr.wf]

theorem cmdRow_cmdCode {i : Instr} {b : Byte} (hc : cmdCode i = some b) (hi : i.wf = true) : cmdRow b = i := by
  cases i
  case badCommand c =>
    cases hc
    exact cmdRow_not_code ((Instr.wf_badCommand_iff b).1 hi)
  all_goals
    cases hc <;> rfl

theorem Instr.isCmdByte_iff (i : Instr) : i.isCmdByte = true ↔ (∃ b, cmdCode i = some b) ∧ i.wf = true := by
  simp [Instr.isCmdByte, Option.isSome_iff_exists]

end Sys2Proof

namespace Sys2Proof.Machine

/-! ## The byte written to CMD -/

/-- R150: a byte that is no command code is a byte of CMD whose work is to post BAD_COMMAND. -/
theorem exec_badCommand {b : Byte} (hb : isCommandCode b = false) (s : State) :
    exec (.badCommand b) s = .next (cmdByte b (fun v => v.postResult .badCommand 0) s) := by
  simp [exec, execBadCommand, hb]

/-- R150, R153: every command of CMD acts through `cmdByte`, with work of its own. -/
theorem exec_cmdByte {i : Instr} {b : Byte} (hc : cmdCode i = some b) (hi : i.wf = true) :
    ∃ work, ∀ s, exec i s = .next (cmdByte b work s) := by
  cases i
  case badCommand c =>
    cases hc
    exact ⟨_, exec_badCommand ((Instr.wf_badCommand_iff b).1 hi)⟩
  all_goals
    cases hc <;> exact ⟨_, fun _ => rfl⟩

/-- R153: while a long command is in flight every byte written to CMD is acknowledged, and only sets CMD_OVERRUN. -/
theorem exec_overrun {i : Instr} {s : State} (hi : i.isCmdByte = true) (hw : s.WritesAt 0x0C#6)
    (hf : s.engine.inFlight.isSome = true) : exec i s = .next { s.acked with flags := s.flags ||| 0x02#6 } := by
  obtain ⟨⟨b, hc⟩, hwf⟩ := (Instr.isCmdByte_iff i).1 hi
  obtain ⟨work, acts⟩ := exec_cmdByte hc hwf
  rw [acts, cmdByte_overrun hw hf]

/-- R150: a byte that is no command code is taken and ends with BAD_COMMAND. -/
theorem exec_badCommand_takes {b : Byte} {s : State} (hb : isCommandCode b = false) (hs : s.Takes) :
    exec (.badCommand b) s = .next (s.posted b .badCommand 0) := by
  rw [exec_badCommand hb, cmdByte_takes hs, State.postResult_posted]

/-- Settles O28: the table of section 10.3.1 row by row, and the byte by whether a long command is in flight. -/
theorem commandBytesNameOrAreRefused : Obligations.CommandBytesNameOrAreRefused := by
  exact ⟨cmdCode_cmdRow, fun _ _ => cmdRow_cmdCode, isCommandCode_iff, rfl, fun _ => cmdRow_not_code,
    fun _ _ => exec_overrun, fun _ _ => exec_badCommand_takes⟩

end Sys2Proof.Machine
end

section
/-! PROOF. What a step can do, said once for the laws that every step keeps. A law is kept by
every step when it is kept by the changes listed here (`StepClosed`), and a change of fields that a law does not read
keeps it by definition. -/

namespace Sys2Proof.Machine

/-! ## Tables -/

/-- An entry of a table after one entry was replaced. -/
theorem getElem_set_fin {α : Type} {n : Nat} (v : Vector α n) (i j : Fin n) (x : α) :
    (v.set i x)[j] = if i = j then x else v[j] := by
  simp [Vector.getElem_set, Fin.ext_iff]

/-- An entry of a table given by a function. -/
theorem getElem_ofFn_fin {α : Type} {n : Nat} (f : Fin n → α) (i : Fin n) : (Vector.ofFn f)[i] = f i := by simp

/-! ## Changes of the state -/

/-- The changes of fields that no law reads. -/
inductive State.Plain (s : State) : State → Prop where
  | mk (pending : List Instr) (rstLow : Bool) (resetCause : ResetCause) (time : Time) (outLevel flags : BitVec 6)
      (attnMask : BitVec 7) (port : Port) (cmd : Byte) (result : Result) (detail arg0 arg1 arg2 : Byte) (buf : Buf) :
      s.Plain { s with
        pending := pending, rstLow := rstLow, resetCause := resetCause, time := time, outLevel := outLevel
        flags := flags, attnMask := attnMask, port := port
        engine := { s.engine with cmd := cmd, result := result, detail := detail, arg0 := arg0, arg1 := arg1,
                                  arg2 := arg2, buf := buf } }

/-- R48 to R57: what the commands of the pattern table do besides posting a result; DISABLE_PATTERN of an ACTIVE
pattern is work of the matcher. -/
inductive PatChange (s : State) : State → Prop where
  | begins (p : PatIdx) (h : PatHeader) (hb : s.build = none ∨ s.build = some p) (hst : s.patState[p] = .empty)
      (hh : readHeader s.engine.buf = .good h) :
      PatChange s { s.setPattern p { header := h, steps := [], univ := 0 } .building with build := some p }
  | appends (p : PatIdx) (x : Step) (hb : s.build = some p) (hl : s.patDef[p].steps.length < 8)
      (hf : s.poolFree ≠ 0) (hx : readStep s.engine.buf s.patDef[p].steps = .good x) :
      PatChange s { s with patDef := s.patDef.set p { s.patDef[p] with steps := s.patDef[p].steps ++ [x] }
                           poolFree := s.poolFree - 1 }
  | ends (p : PatIdx) (hb : s.build = some p) (hc : firstFail (endChecks s.patDef[p]) = none) :
      PatChange s { s.setPattern p { s.patDef[p] with univ := unionOf s.patDef[p].steps }
        (if s.patDef[p].header.startEnabled then .ready else .disabled) with build := none }
  | abandons (p : PatIdx) (hb : s.build = some p) : PatChange s { s.emptyPattern p with build := none }
  | revises (p : PatIdx) (h : PatHeader) (hst : s.patState[p] = .disabled) (hh : readHeader s.engine.buf = .good h)
      (hf : followAllowed h s.patDef[p].steps = true) (hp : pulseAllowed h = true) :
      PatChange s { s with patDef := s.patDef.set p { s.patDef[p] with header := h } }
  | deletes (p : PatIdx) (hst : s.patState[p] = .disabled) : PatChange s (s.emptyPattern p)
  | moves (p : PatIdx) (st : PatState) (hst : s.patState[p] ∈ [PatState.disabled, .ready, .spent, .locked])
      (ht : st ∈ [PatState.disabled, .ready]) : PatChange s (s.setPatState p st)

/-- R170 to R173, R179: what COMMIT and ERASE_STORED do at their takes and at the ends of their phases. -/
inductive StoreChange (s : State) : State → Prop where
  | commits (t : BankId) (g : BitVec 16) (ht : s.store.commitTarget = (t, g)) (hf : s.engine.inFlight = none)
      (hb : s.build = none) :
      StoreChange s { s.acceptLong (.commit .erase t g s.commitImage) with
        store := s.store.setBank t (s.store.nv.get t).unformatted BankRec.damaged }
  | erased (t : BankId) (g : BitVec 16) (i : Image) (hf : s.engine.inFlight = some (.commit .erase t g i)) :
      StoreChange s { s.setFlight (.commit .program t g i) with
        store := s.store.setBank t NvBank.blank.unformatted BankRec.blank }
  | programmed (t : BankId) (g : BitVec 16) (i : Image) (hf : s.engine.inFlight = some (.commit .program t g i)) :
      StoreChange s { s.setFlight (.commit .verify t g i) with
        store := s.store.setBank t (NvBank.programmed g i) BankRec.damaged }
  | verified (t : BankId) (g : BitVec 16) (i : Image) (hf : s.engine.inFlight = some (.commit .verify t g i)) :
      StoreChange s (s.setFlight (.commit (.seal false) t g i))
  | written (t : BankId) (g : BitVec 16) (i : Image) (hf : s.engine.inFlight = some (.commit (.seal false) t g i)) :
      StoreChange s { s.setFlight (.commit (.seal true) t g i) with
        store := { s.store with nv := s.store.nv.put t (NvBank.sealed g i) } }
  | sealed (w : Bool) (t : BankId) (g : BitVec 16) (i : Image)
      (hf : s.engine.inFlight = some (.commit (.seal w) t g i)) :
      StoreChange s
        { s with store := s.store.setBank t (NvBank.sealed g i) { state := .valid, generation := g } }.postOk
  | fails (ph : CommitPhase) (t : BankId) (g : BitVec 16) (i : Image)
      (hf : s.engine.inFlight = some (.commit ph t g i)) : StoreChange s (s.failCommit t)
  | eraseBegins (c : LongCmd) (i : BankId) (f : Option BankId) (hf : s.engine.inFlight = none) :
      StoreChange s ((s.acceptLong c).beginErase i f)
  | erasesNothing (c : LongCmd) (hf : s.engine.inFlight = none) : StoreChange s (s.acceptLong c).postOk
  | eraseGoesOn (i j : BankId) (f : Option BankId) (hf : s.engine.inFlight = some (.erase i f)) :
      StoreChange s ((s.blankBank i).beginErase j none)
  | eraseEnds (i : BankId) (f : Option BankId) (hf : s.engine.inFlight = some (.erase i f)) :
      StoreChange s (s.blankBank i).postOk

/-- The work of the matcher outside any event of a channel. -/
inductive TrackWork (s : State) : (Env → Recog → Recog) → Prop where
  | idles : TrackWork s fun _ w => w
  | takesDue : TrackWork s fun e w => match nextDue e e.now w with
      | none => w
      | some d => takeDue e d w
  | flushes : TrackWork s flushWork
  | disables (p : PatIdx) (hst : s.patState[p] = .active) : TrackWork s (disableActive p)

/-- What a channel's turn makes of it: a result of a scan, or a command that takes it out of its state. -/
inductive ChanTurn (s : State) (c : Chan) : ChanLive × List Notice → Prop where
  | result (raw : Fin 4096) (t : Time) : ChanTurn s c (chanResult s.chanCfg[c] c raw.val t s.time s.chanLive[c])
  | leaves (target : ChanState) (cause : Cause) (ht : target ∈ [ChanState.settling, .suspended, .off]) :
      ChanTurn s c (leaveTo target cause c s.time s.chanLive[c])

/-- Live records that change only by an entry to SETTLING, SUSPENDED or OFF of channels that are not down. -/
def State.QuietLives (s : State) (live : Vector ChanLive 12) : Prop :=
  ∀ c : Chan, live[c] = s.chanLive[c] ∨ s.chanLive[c].state.isDown = false
    ∧ ∃ st ∈ [ChanState.settling, .suspended, .off], live[c] = enterCleared st s.chanLive[c]

/-- The state once a channel's turn is over but for the records it offered. -/
def State.afterTurn (s : State) (c : Chan) (r : ChanLive × List Notice) : State :=
  (s.setLive c r.1).putRecog (handAll s.chanCfg[c].report c r.2 s.env s.recog)

/-- R8, steps 1 and 2: the scan in progress is over, and every channel that is down has had its HALT release. -/
def State.haltAll (s : State) : State :=
  allChans.foldl (fun v c => haltOne c v) { s with scanner := { s.scanner with scan := none } }

/-- R8, step 3: the remaining measured channels are suspended and the scanner is STOPPED. -/
def State.stopped (s : State) : State :=
  { s with chanLive := Vector.ofFn fun c => suspend s.chanLive[c]
           scanner := { s.scanner with nextScan := none, running := false } }

theorem stopScanWork_eq (s : State) :
    stopScanWork s = if s.scanner.running = true then s.haltAll.stopped.postOk else s.postOk := by
  simp only [stopScanWork, State.stopped, State.haltAll]

/-- R6, step 1: the suspended channels go to SETTLING, and the scanner is RUNNING. -/
def State.woken (s : State) : State :=
  { s with chanLive := Vector.ofFn fun c => wake s.chanLive[c], scanner := { s.scanner with running := true } }

theorem startScanWork_eq (s : State) :
    startScanWork s = if s.scanner.running = true then s.postOk else (s.woken.beginScan s.time).postOk := rfl

/-! ## Laws closed under the changes -/

/-- A law that does not read the fields of `Plain`, and that pushes and pops keep. -/
structure QueueClosed (P : State → Prop) : Prop where
  plain : ∀ s t, s.Plain t → P s → P t
  push : ∀ s r, P s → P (s.push r)
  pops : ∀ s, P s → P { s with report := s.report.pop s.time }

/-- A law that a channel's turns and entries keep, and that reads no part of the scanner. -/
structure ChanClosed (P : State → Prop) : Prop extends QueueClosed P where
  scanner : ∀ s sc, P s → P { s with scanner := sc }
  turn : ∀ s c r, ChanTurn s c r → P s → P (s.afterTurn c r)
  lives : ∀ s live, s.QuietLives live → P s → P { s with chanLive := live }
  cfg : ∀ s (c : Chan) cfg, cfg.wf = true → P s → P { s with chanCfg := s.chanCfg.set c cfg }

/-- A law that the commands and happenings of scanner and channels keep. -/
structure ScanClosed (P : State → Prop) : Prop extends QueueClosed P where
  scanStart : ∀ s t, s.scanDue = true → s.scanner.nextScan = some t → P s → P (s.beginScan t)
  startScan : ∀ s, s.scanner.running = false → P s → P (s.woken.beginScan s.time)
  stopScan : ∀ s, s.scanner.running = true → P s → P s.haltAll.stopped
  scanResult : ∀ s (raw : Fin 4096) pop sc t c rest, s.scanner.scan = some sc → s.scanner.lastScan = some t →
    sc.left = c :: rest → P s →
    P (State.chanStep { s with scanner := { s.scanner with scan := sc.delivered } } pop c
      (chanResult s.chanCfg[c] c raw.val t s.time s.chanLive[c]))
  recalibrate : ∀ s set, P s → P (allChans.foldl (fun v c => if hasChan set c then recalibrateOne c v else v) s)
  writeChannel : ∀ s c cfg, cfg.wf = true → P s → P (writeChannel c cfg s)

/-- A law `P` that every change but the loads keeps, and of which the loads keep `Q`. -/
structure StepClosed (P Q : State → Prop) : Prop extends ScanClosed P where
  weaken : ∀ s, P s → Q s
  posts : ∀ s r d, s.engine.inFlight = none → P s → P (s.postResult r d)
  works : ∀ s f, TrackWork s f → P s → P (s.putRecog (f s.env s.recog))
  clears : ∀ s, P s → P { s with report := { records := [], lost := 0 } }
  pulseEnd : ∀ s (o : OutIdx), P s → P { s with outState := s.outState.set o (endPulse s.time s.outState[o]) }
  outLevel : ∀ s level, P s →
    P { s with outState := Vector.ofFn fun i => applyLevel level i s.outCfg[i] s.outState[i] }
  writeGlobals : ∀ s g, g.wf = true → P s → P { s with globals := g }
  writeOutput : ∀ s o c, P s → P (writeOutput o c s)
  patterns : ∀ s t, PatChange s t → P s → P t
  stores : ∀ s t, StoreChange s t → P s → P t
  restoreTake : ∀ s x, s.engine.inFlight = none → P s → P (restoreTake x s)
  restoreEnd : ∀ s x, s.engine.inFlight = some (.restore x) → P s → Q (restoreEnd x s)
  goDown : ∀ s done m, m ≠ .running → P s → P (s.goDown done m)
  rise : ∀ s m, s.mode ≠ .running → m ≠ .running → P s → P { s with mode := m }
  startUp : ∀ s cause low, s.mode = .loading cause → P s → Q (s.startUp cause low)

/-! ## Bytes, pushes and pops -/

namespace QueueClosed

variable {P : State → Prop} (c : QueueClosed P) {s : State}

include c

theorem ofPlain {t : State} (ht : s.Plain t) (h : P s) : P t := c.plain s t ht h

theorem setAck (a : Bool) (h : P s) : P (s.setAck a) := c.plain s _ (.mk ..) h

theorem acked (h : P s) : P s.acked := c.plain s _ (.mk ..) h

theorem raise (f : EventFlag) (h : P s) : P (s.raise f) := c.plain s _ (.mk ..) h

theorem takeOffers (l : List Record) (h : P s) : P (s.takeOffers l) := foldl_keeps _ (fun v r hv => c.push v r hv) l s h

theorem beginTransaction (addr : BusAddr) (read : Bool) (h : P s) : P (s.beginTransaction addr read) := by
  unfold State.beginTransaction
  split
  · split <;> exact c.plain s _ (.mk ..) h
  · exact c.setAck _ h

theorem popWork (b : Byte) (h : P s) : P (popWork b s) := by
  unfold Machine.popWork
  split
  · exact c.pops s h
  · exact h

/-- R145: a byte of a write transaction, whose action keeps the law. -/
theorem writeByteIf {here : RegAddr → Bool} {act : State → State} (hact : ∀ v, P v → P (act v)) (h : P s) :
    P (writeByteIf here act s) := by
  rcases writeByteIf_cases here act s with ⟨-, -, e⟩ | e | e <;> rw [e]
  · exact hact _ (c.acked h)
  · exact h
  · exact c.setAck _ h

/-- R150, R153: a byte written to CMD, whose work keeps the law where no long command is in flight. -/
theorem cmdByte {code : Byte} {work : State → State} (hw : ∀ v, v.engine.inFlight = none → P v → P (work v)) (h : P s) :
    P (cmdByte code work s) := by
  rcases cmdByte_cases code work s with ⟨⟨-, hf⟩, e⟩ | ⟨-, -, e⟩ | e | e <;> rw [e]
  · exact hw _ hf (c.plain s _ (.mk ..) h)
  · exact c.plain s _ (.mk ..) h
  · exact h
  · exact c.setAck _ h

theorem popByte (b : Byte) (h : P s) : P (popByte b s) :=
  c.writeByteIf (here := (· == 0x14#6)) (act := Machine.popWork b) (fun _ hv => c.popWork b hv) h

/-- R130, R134: the pushes of one happening, with the pop that falls between them. -/
theorem workWith {pop : Option PopBetween} {f : Env → Recog → Recog} (h : P (s.putRecog (f s.env s.recog))) :
    P (s.workWith pop f) := by
  cases pop with
  | none => exact c.takeOffers _ h
  | some p => exact c.takeOffers _ (c.popByte _ (c.takeOffers _ h))

end QueueClosed

/-! ## Turns of the channels -/

theorem firstFail_eq_none_iff (l : List (Nat × Bool)) : firstFail l = none ↔ ∀ c ∈ l, c.2 = true := by
  induction l with
  | nil => simp [firstFail]
  | cons a l ih => cases ha : a.2 <;> simp [firstFail, ha, ih]

/-- A CHANNEL record read from the buffer as good is in range (R30). -/
theorem readChannel_wf {b : Buf} {cfg : ChanCfg} (h : readChannel b = .good cfg) : cfg.wf = true := by
  obtain ⟨hc, rfl⟩ := (judge_good _ _ _).1 h
  have h8 := b[8].isLt
  have h10 := b[10].isLt
  simp only [firstFail_eq_none_iff, List.forall_mem_cons, within, Bool.and_eq_true, decide_eq_true_eq] at hc
  simp only [ChanCfg.wf, Bool.and_eq_true, decide_eq_true_eq]
  omega

/-- A GLOBALS record read from the buffer as good is in range (R158). -/
theorem readGlobals_wf {b : Buf} {g : Globals} (h : readGlobals b = .good g) : g.wf = true := by
  obtain ⟨hc, rfl⟩ := (judge_good _ _ _).1 h
  simp only [firstFail_eq_none_iff, List.forall_mem_cons, within, Bool.and_eq_true, decide_eq_true_eq] at hc
  simp only [Globals.wf, Bool.and_eq_true, decide_eq_true_eq, BitVec.toNat_setWidth]
  omega

/-- R134: work, with a pop between its pushes or none, leaves the live records alone. -/
theorem State.workWith_chanLive (s : State) (pop : Option PopBetween) (f : Env → Recog → Recog) :
    (s.workWith pop f).chanLive = s.chanLive :=
  QueueClosed.workWith (P := fun t => t.chanLive = s.chanLive)
    ⟨fun | _, _, .mk .., h => h, fun _ _ h => h, fun _ h => h⟩ rfl

/-- R134: the same for the CHANNEL records. -/
theorem State.workWith_chanCfg (s : State) (pop : Option PopBetween) (f : Env → Recog → Recog) :
    (s.workWith pop f).chanCfg = s.chanCfg :=
  QueueClosed.workWith (P := fun t => t.chanCfg = s.chanCfg) 
    ⟨fun | _, _, .mk .., h => h, fun _ _ h => h, fun _ h => h⟩ rfl

/-- R134: the same for the scanner. -/
theorem State.workWith_scanner (s : State) (pop : Option PopBetween) (f : Env → Recog → Recog) :
    (s.workWith pop f).scanner = s.scanner :=
  QueueClosed.workWith (P := fun t => t.scanner = s.scanner) 
    ⟨fun | _, _, .mk .., h => h, fun _ _ h => h, fun _ h => h⟩ rfl

theorem State.chanStep_chanLive (s : State) (pop : Option PopBetween) (c : Chan) (r : ChanLive × List Notice)
    (d : Chan) : (s.chanStep pop c r).chanLive[d] = if c = d then r.1 else s.chanLive[d] := by
  simp only [State.chanStep, State.workWith_chanLive, State.setLive_chanLive, getElem_set_fin]

theorem State.chanStep_scanner (s : State) (pop : Option PopBetween) (c : Chan) (r : ChanLive × List Notice) :
    (s.chanStep pop c r).scanner = s.scanner := State.workWith_scanner ..

@[simp] theorem enterCleared_state (st : ChanState) (l : ChanLive) : (enterCleared st l).state = st := rfl

@[simp] theorem ChanLive.cleared_state (st : ChanState) (l : ChanLive) : (l.cleared st).state = st := rfl

/-- R14: the entry of the statements and that of the meanings are one function. -/
theorem enterCleared_eq_cleared (st : ChanState) (l : ChanLive) : enterCleared st l = l.cleared st := rfl

theorem isDown_suspended : ChanState.isDown .suspended = false := rfl

/-- R8, step 2: the live records once the channels of a list have had their turns. -/
theorem foldl_haltOne_chanLive (l : List Chan) (s : State) (d : Chan) :
    (l.foldl (fun v c => haltOne c v) s).chanLive[d] =
      if d ∈ l ∧ s.chanLive[d].state.isDown = true then enterCleared .suspended s.chanLive[d] else s.chanLive[d] := by
  induction l generalizing s with
  | nil => simp
  | cons c l ih =>
    have one : (haltOne c s).chanLive[d] =
        if d = c ∧ s.chanLive[d].state.isDown = true then enterCleared .suspended s.chanLive[d] else s.chanLive[d] := by
      unfold haltOne
      by_cases hd : s.chanLive[c].state.isDown = true
      · simp only [if_pos hd, State.chanStep_chanLive]
        by_cases hc : c = d
        · subst hc; simp only [hd, leaveTo, and_self, if_true]
        · simp only [hc, Ne.symm hc, false_and, if_false]
      · by_cases hc : c = d
        · subst hc; simp only [hd, and_false, if_false, Bool.false_eq_true]
        · simp only [if_neg hd, Ne.symm hc, false_and, if_false]
    simp only [List.foldl_cons, ih, one, List.mem_cons]
    by_cases hd : s.chanLive[d].state.isDown = true
    · by_cases hc : d = c
      · subst hc
        simp only [hd, and_self, true_or, if_true, enterCleared_state, isDown_suspended, and_false, if_false,
          Bool.false_eq_true]
      · simp only [hc, hd, false_and, false_or, if_false]
    · simp only [hd, and_false, if_false, Bool.false_eq_true]

/-! ## Laws of channels and trackers, closed under the scanner's commands -/

/-- Whether a channel is measured, by the list of R3. -/
theorem isMeasured_iff (x : ChanState) : x.isMeasured = true ↔ x ∈ measuredStates := by
  cases x <;> decide

theorem State.settleTarget_mem (s : State) : s.settleTarget ∈ [ChanState.settling, .suspended, .off] := by
  unfold State.settleTarget; split <;> decide

theorem State.haltAll_chanLive (s : State) (d : Chan) : s.haltAll.chanLive[d] =
    if s.chanLive[d].state.isDown = true then enterCleared .suspended s.chanLive[d] else s.chanLive[d] := by
  simp only [State.haltAll, foldl_haltOne_chanLive, allChans, List.mem_finRange, true_and]

/-- After the halts no channel is down. -/
theorem State.haltAll_notDown (s : State) (d : Chan) : s.haltAll.chanLive[d].state.isDown = false := by
  simp only [State.haltAll_chanLive]
  by_cases hd : s.chanLive[d].state.isDown = true
  · simp only [if_pos hd, enterCleared_state, isDown_suspended]
  · simp only [if_neg hd]; exact Bool.eq_false_of_not_eq_true hd

namespace ChanClosed

variable {P : State → Prop} (c : ChanClosed P) {s : State}

include c

theorem chanStep {pop : Option PopBetween} {d : Chan} {r : ChanLive × List Notice} (hr : ChanTurn s d r) (h : P s) :
    P (s.chanStep pop d r) := c.workWith (c.turn s d r hr h)

theorem haltOne (d : Chan) (h : P s) : P (haltOne d s) := by
  unfold Machine.haltOne
  dsimp only
  split
  · exact c.chanStep (.leaves _ _ (by decide)) h
  · exact h

theorem recalibrateOne (d : Chan) (h : P s) : P (recalibrateOne d s) := by
  unfold Machine.recalibrateOne
  dsimp only
  split
  · exact h
  · exact c.chanStep (.leaves _ _ s.settleTarget_mem) h

/-- One channel that is not down enters SETTLING, SUSPENDED or OFF. -/
theorem enters {st : ChanState} (d : Chan) (hd : s.chanLive[d].state.isDown = false)
    (hst : st ∈ [ChanState.settling, .suspended, .off]) (h : P s) :
        P (s.setLive d (enterCleared st s.chanLive[d])) := by
  refine c.lives s _ (fun b => ?_) h
  simp only [getElem_set_fin]
  by_cases hb : d = b
  · subst hb; exact .inr ⟨hd, st, hst, if_pos rfl⟩
  · exact .inl (if_neg hb)

/-- R31: an accepted CHANNEL write. -/
theorem writeChannel (d : Chan) (cfg : ChanCfg) (hw : cfg.wf = true) (h : P s) : P (writeChannel d cfg s) := by
  have h1 := c.cfg s d cfg hw h
  have hin : ∀ st ∈ [ChanState.settling, .suspended, .off], s.chanLive[d].state.isDown = false →
      P (State.setLive { s with chanCfg := s.chanCfg.set d cfg } d (enterCleared st s.chanLive[d])) :=
    fun st hst hd => c.enters d hd hst h1
  unfold Machine.writeChannel
  dsimp only
  split
  · cases hs : s.chanLive[d].state
    case off | fault => exact hin _ s.settleTarget_mem (by rw [hs]; rfl)
    case suspended => exact hin _ (by decide) (by rw [hs]; rfl)
    all_goals exact h1
  · split
    · exact h1
    · exact c.chanStep (s := { s with chanCfg := s.chanCfg.set d cfg }) (.leaves _ _ (by decide)) h1

/-- R6, step 1: the suspended channels wake quietly. -/
theorem wakes (h : P s) : P { s with chanLive := Vector.ofFn fun d => wake s.chanLive[d] } := by
  refine c.lives s _ (fun d => ?_) h
  simp only [getElem_ofFn_fin, wake]
  by_cases hd : s.chanLive[d].state = .suspended
  · exact .inr ⟨by rw [hd]; rfl, .settling, by decide, if_pos hd⟩
  · exact .inl (if_neg hd)

/-- R8, step 3: with no channel down, the measured channels are suspended quietly. -/
theorem suspends (hd : ∀ d : Chan, s.chanLive[d].state.isDown = false) (h : P s) :
    P { s with chanLive := Vector.ofFn fun d => suspend s.chanLive[d] } := by
  refine c.lives s _ (fun d => ?_) h
  simp only [getElem_ofFn_fin, suspend]
  by_cases hm : s.chanLive[d].state.isMeasured = true
  · exact .inr ⟨hd d, .suspended, by decide, if_pos hm⟩
  · exact .inl (if_neg hm)

theorem halts (h : P s) : P s.haltAll := foldl_keeps _ (fun _ d hv => c.haltOne d hv) _ _ (c.scanner s _ h)

theorem stops (hd : ∀ d : Chan, s.chanLive[d].state.isDown = false) (h : P s) : P s.stopped :=
  c.scanner _ _ (c.suspends hd h)

/-- The commands and happenings of scanner and channels, from the turns of the channels. -/
theorem scanClosed : ScanClosed P where
  toQueueClosed := c.toQueueClosed
  scanStart s t _ _ h := c.scanner s _ h
  startScan s _ h := c.scanner _ _ (c.scanner _ _ (c.wakes h))
  stopScan s _ h := c.stops s.haltAll_notDown (c.halts h)
  scanResult s raw pop sc t d rest _ _ _ h := by
    have h1 : P { s with scanner := { s.scanner with scan := sc.delivered } } := c.scanner s _ h
    exact c.chanStep (.result raw t) h1
  recalibrate s set h := by
    refine foldl_keeps _ (fun v d hv => ?_) _ _ h
    split
    · exact c.recalibrateOne d hv
    · exact hv
  writeChannel s d cfg hw h := c.writeChannel d cfg hw h

end ChanClosed

/-- The command in flight stays what it is while channels and scanner do their work. -/
theorem inFlight_scanClosed (x : Option LongCmd) : ScanClosed fun t => t.engine.inFlight = x :=
  ChanClosed.scanClosed {
    plain := fun | _, _, .mk .., h => h
    push := fun _ _ h => h, pops := fun _ h => h
    scanner := fun _ _ h => h, turn := fun _ _ _ _ h => h, lives := fun _ _ _ h => h, cfg := fun _ _ _ _ h => h }

/-! ## Loads -/

/-- R10, R11: the scanner's start at the end of a load touches nothing else. -/
theorem State.startFromImage_frame (i : Image) (s : State) : ∃ sc, s.startFromImage i = { s with scanner := sc } := by
  unfold State.startFromImage
  dsimp only
  split <;> exact ⟨_, rfl⟩

/-- R176: the end of a restore, but for the scanner, the port and the mask. -/
theorem restoreEnd_frame (x : Source) (s : State) : ∃ sc port mask, restoreEnd x s = State.postOk
    { s.applyImage (s.store.imageOf x) with
      scanner := sc, port := port, attnMask := mask, store := { s.store with source := x } } := by
  unfold restoreEnd
  dsimp only
  obtain ⟨sc, e⟩ := State.startFromImage_frame (s.store.imageOf x) { s.applyImage (s.store.imageOf x) with
    port := offerAddress (s.store.imageOf x).globals.address (s.applyImage (s.store.imageOf x)).port
    store := { (s.applyImage (s.store.imageOf x)).store with source := x } }
  rw [e]
  exact ⟨_, _, _, rfl⟩

/-- R168: the image that a start-up load applies. -/
def State.startImage (s : State) : Image := s.store.examineAll.imageOf s.store.examineAll.startSource

/-- R168: the end of a start-up load, but for the scanner, the port, the flags and the mask. -/
theorem State.startUp_frame (cause : ResetCause) (low : Bool) (s : State) : ∃ sc port flags mask,
    s.startUp cause low = { s.applyImage s.startImage with
      store := { s.store.examineAll with source := s.store.examineAll.startSource }
      scanner := sc, port := port, flags := flags, attnMask := mask, time := 0, resetCause := cause
      report := { records := [], lost := 0 }, outLevel := 0, engine := Engine.reset, mode := .running } := by
  unfold State.startUp
  obtain ⟨sc, e⟩ := State.startFromImage_frame s.startImage (State.applyImage s.startImage { s with
    store := { s.store.examineAll with source := s.store.examineAll.startSource }
    port := portAtStart low s.startImage.globals.address s.port
    time := 0, resetCause := cause, attnMask := s.startImage.attnMask, report := { records := [], lost := 0 }
    outLevel := 0, engine := Engine.reset
    flags := if s.store.examineAll.damagedAtStart.a || s.store.examineAll.damagedAtStart.b then
      raiseFlag .storeFault 0 else 0
    mode := .running })
  exact ⟨sc, _, _, _, e⟩

/-! ## Laws closed under steps -/

namespace StepClosed

variable {P Q : State → Prop} (c : StepClosed P Q) {s : State}

include c

theorem postOk (hf : s.engine.inFlight = none) (h : P s) : P s.postOk := c.posts s _ _ hf h

/-- A command that changes the pattern table and posts its result. -/
theorem patternPosted {t : State} (hf : s.engine.inFlight = none) (ht : PatChange s t)
    (he : t.engine = s.engine) (h : P s) : P t.postOk := c.postOk (he ▸ hf) (c.patterns s t ht h)

/-- Work of the matcher, with the records it offers. -/
theorem work {f : Env → Recog → Recog} (hf : TrackWork s f) (h : P s) : P (s.work f) :=
  c.workWith (pop := none) (c.works s f hf h)

/-- R48 to R57: a command whose ARG0 names a pattern. -/
theorem onPattern {f : PatIdx → State → State} (hf : s.engine.inFlight = none) (hp : ∀ p, P (f p s)) (h : P s) :
    P (s.onPattern f) := by
  unfold State.onPattern
  split
  · exact c.posts s _ _ hf h
  · exact hp _

/-- R48, R49, R51: a command of the open build. -/
theorem onBuild {f : PatIdx → State → State} (hf : s.engine.inFlight = none)
    (hp : ∀ p, s.build = some p → P (f p s)) (h : P s) : P (s.onBuild f) := by
  unfold State.onBuild
  split
  · exact c.posts s _ _ hf h
  · next p hb => exact hp p hb

theorem beginAt (p : PatIdx) (hf : s.engine.inFlight = none) (h : P s) : P (beginAt p s) := by
  unfold Machine.beginAt
  split
  · exact c.posts s _ _ hf h
  · next hb =>
    split
    · exact c.posts s _ _ hf h
    · next hst =>
      split
      · exact c.posts s _ _ hf h
      · next x hx =>
        refine c.patternPosted hf (.begins p x ?_ (not_not.1 hst) hx) rfl h
        cases hs : s.build with
        | none => exact .inl rfl
        | some q => exact .inr (by simpa [hs] using hb)

theorem appendAt (p : PatIdx) (hf : s.engine.inFlight = none) (hb : s.build = some p) (h : P s) :
    P (appendAt p s) := by
  unfold Machine.appendAt
  dsimp only
  split
  · exact c.posts s _ _ hf h
  · next hl =>
    split
    · exact c.posts s _ _ hf h
    · next hfree =>
      split
      · exact c.posts s _ _ hf h
      · next x hx => exact c.patternPosted hf (.appends p x hb (Nat.lt_of_not_le hl) hfree hx) rfl h

theorem endAt (p : PatIdx) (hf : s.engine.inFlight = none) (hb : s.build = some p) (h : P s) : P (endAt p s) := by
  unfold Machine.endAt
  dsimp only
  split
  · exact c.posts s _ _ hf h
  · next hc => exact c.patternPosted hf (.ends p hb hc) rfl h

theorem reviseAt (p : PatIdx) (hf : s.engine.inFlight = none) (h : P s) : P (reviseAt p s) := by
  unfold Machine.reviseAt
  split
  · exact c.posts s _ _ hf h
  · next hst =>
    split
    · exact c.posts s _ _ hf h
    · next x hx =>
      split
      · exact c.posts s _ _ hf h
      · next hfo =>
        split
        · exact c.posts s _ _ hf h
        · next hpu =>
            exact c.patternPosted hf (.revises p x (not_not.1 hst) hx (by simpa using hfo) (by simpa using hpu)) rfl h

theorem deleteAt (p : PatIdx) (hf : s.engine.inFlight = none) (h : P s) : P (deleteAt p s) := by
  rw [deleteAt_eq]
  split
  · next hst => exact c.patternPosted hf (.deletes p hst) rfl h
  · exact c.posts s _ _ hf h

theorem enableAt (p : PatIdx) (hf : s.engine.inFlight = none) (h : P s) : P (enableAt p s) := by
  rw [enableAt_eq]
  split
  · next hst => exact c.patternPosted hf (.moves p .ready (by simp [hst]) (by decide)) rfl h
  · exact c.posts s _ _ hf h

theorem disableAt (p : PatIdx) (hf : s.engine.inFlight = none) (h : P s) : P (disableAt p s) := by
  unfold Machine.disableAt
  split
  · next hst => exact c.postOk (by rw [State.work_frame]; exact hf) (c.work (.disables p hst) h)
  · next hst => exact c.patternPosted hf (.moves p .disabled (by simp [hst]) (by decide)) rfl h
  · next hst => exact c.patternPosted hf (.moves p .disabled (by simp [hst]) (by decide)) rfl h
  · next hst => exact c.patternPosted hf (.moves p .disabled (by simp [hst]) (by decide)) rfl h
  all_goals exact c.posts s _ _ hf h

theorem armAt (p : PatIdx) (hf : s.engine.inFlight = none) (h : P s) : P (armAt p s) := by
  rw [armAt_eq]
  split
  · next hst =>
    exact c.patternPosted hf (.moves p .ready (by rcases hst with hst | hst <;> simp [hst]) (by decide)) rfl h
  · exact c.posts s _ _ hf h

/-- R157: a judged record is handed to its block. -/
theorem writeJudged {α : Type} {j : Judged α} {f : α → State → State} (hf : s.engine.inFlight = none)
    (hj : ∀ x, j = .good x → (f x s).engine.inFlight = none ∧ P (f x s)) (h : P s) : P (s.writeJudged j f) := by
  unfold State.writeJudged
  split
  · exact c.postOk (hj _ rfl).1 (hj _ rfl).2
  · exact c.posts s _ _ hf h

theorem writeRecordWork (hf : s.engine.inFlight = none) (h : P s) : P (writeRecordWork s) := by
  unfold Machine.writeRecordWork
  split
  · exact c.writeJudged hf
      (fun g hg => ⟨hf, c.plain _ _ (.mk ..) (c.writeGlobals s g (readGlobals_wf hg) h)⟩) h
  · split
    · exact c.posts s _ _ hf h
    · next d _ =>
      exact c.writeJudged hf (fun cfg hc => ⟨(inFlight_scanClosed none).writeChannel s d cfg (readChannel_wf hc) hf,
        c.writeChannel s d cfg (readChannel_wf hc) h⟩) h
  · split
    · exact c.posts s _ _ hf h
    · next o _ => exact c.writeJudged hf (fun x _ => ⟨hf, c.writeOutput s o x h⟩) h
  all_goals exact c.posts s _ _ hf h

theorem readRecordWork (hf : s.engine.inFlight = none) (h : P s) : P (readRecordWork s) := by
  unfold Machine.readRecordWork
  split
  · exact c.postOk hf (c.plain s _ (.mk ..) h)
  · exact c.posts s _ _ hf h

theorem startScanWork (hf : s.engine.inFlight = none) (h : P s) : P (startScanWork s) := by
  rw [startScanWork_eq]
  split
  · exact c.postOk hf h
  · next hr => exact c.postOk hf (c.startScan s (Bool.eq_false_of_not_eq_true hr) h)

theorem stopScanWork (hf : s.engine.inFlight = none) (h : P s) : P (stopScanWork s) := by
  rw [stopScanWork_eq]
  split
  · next hr => exact c.postOk ((inFlight_scanClosed none).stopScan s hr hf) (c.stopScan s hr h)
  · exact c.postOk hf h

theorem recalibrateWork (hf : s.engine.inFlight = none) (h : P s) : P (recalibrateWork s) :=
  c.postOk ((inFlight_scanClosed none).recalibrate s _ hf) (c.recalibrate s _ h)

theorem commitWork (hf : s.engine.inFlight = none) (h : P s) : P (commitWork s) := by
  unfold Machine.commitWork
  split
  · exact c.posts s _ _ hf h
  · next hb => exact c.stores s _ (.commits _ _ rfl hf (by simpa using hb)) h

theorem restoreStoredWork (hf : s.engine.inFlight = none) (h : P s) : P (restoreStoredWork s) := by
  unfold Machine.restoreStoredWork
  split
  · exact c.posts s _ _ hf h
  · exact c.restoreTake s _ hf h

theorem eraseStoredWork (hf : s.engine.inFlight = none) (h : P s) : P (eraseStoredWork s) := by
  simp only [Machine.eraseStoredWork, State.eraseNext]
  split
  · exact c.stores s _ (.eraseBegins _ _ _ hf) h
  · split
    · exact c.stores s _ (.erasesNothing _ hf) h
    · exact c.stores s _ (.eraseBegins _ _ _ hf) h

/-- Every command leaves a state in which the law holds. -/
theorem exec_next (h : P s) (i : Instr) : ∃ t, exec i s = .next t ∧ Q t := by
  have kept {t : State} (ht : P t) : ∃ u, (.next t : Host.Outcome State Fault Refusal) = .next u ∧ Q u :=
    ⟨t, rfl, c.weaken t ht⟩
  have byte {code : Byte} {work : State → State} (hw : ∀ v, v.engine.inFlight = none → P v → P (work v)) :
      ∃ u, (.next (cmdByte code work s) : Host.Outcome State Fault Refusal) = .next u ∧ Q u :=
    kept (c.cmdByte hw h)
  have reg {a : RegAddr} {act : State → State} (hact : ∀ v, P v → P (act v)) :
      ∃ u, (.next (writeByteAt a act s) : Host.Outcome State Fault Refusal) = .next u ∧ Q u :=
    kept (c.writeByteIf hact h)
  have plain {t : State} (ht : s.Plain t) : ∃ u, (.next t : Host.Outcome State Fault Refusal) = .next u ∧ Q u :=
    kept (c.plain s t ht h)
  cases i
  case timeBaseTick =>
    refine kept ?_
    split
    · exact c.plain s _ (.mk ..) h
    · exact h
  case scanStart =>
    refine kept ?_
    split
    · next hd =>
      split
      · exact h
      · next t ht => exact c.scanStart s t hd ht h
    · exact h
  case scanResult raw pop =>
    refine kept ?_
    split
    · next sc t hs hl =>
      split
      · exact c.workWith h
      · next d rest hr => exact c.scanResult s raw pop sc t d rest hs hl hr h
    · exact c.workWith h
  case dueTimeTaken pop => exact kept (c.workWith (c.works s _ .takesDue h))
  case pulseEnd o => exact kept (c.pulseEnd s o h)
  case powerOn done =>
    refine kept (c.goDown s done _ ?_ h)
    split <;> nofun
  case lossOfPower done => exact kept (c.goDown s done _ nofun h)
  case rstNAssert done =>
    refine kept ?_
    split
    · exact c.plain s _ (.mk ..) h
    · exact c.plain s _ (.mk ..) h
    · exact c.plain _ _ (.mk ..) (c.goDown s done _ nofun h)
    · exact c.plain _ _ (.mk ..) (c.goDown s done _ nofun h)
  case rstNRelease =>
    refine kept ?_
    split
    · next hm => exact c.plain _ _ (.mk ..) (c.rise s (.loading _) (by rw [hm]; nofun) nofun h)
    all_goals exact c.plain s _ (.mk ..) h
  case startUpLoadEnd low =>
    refine ⟨_, rfl, ?_⟩
    split
    · next cause hm => exact c.startUp s cause low hm h
    all_goals exact c.weaken s h
  case addressByte addr read => exact kept (c.beginTransaction addr read h)
  case repeatedStart addr read => exact kept (c.beginTransaction addr read h)
  case pointerByte b =>
    refine kept ?_
    split
    · exact c.setAck _ h
    · split
      · exact c.plain s _ (.mk ..) h
      · exact h
      all_goals exact c.setAck _ h
  case registerWrite b =>
    refine kept (c.writeByteIf (fun v hv => ?_) h)
    unfold storeByte
    dsimp only
    split
    · exact c.plain v _ (.mk ..) hv
    · split
      · exact c.plain v _ (.mk ..) hv
      · exact c.plain v _ (.mk ..) hv
      · exact c.plain v _ (.mk ..) hv
      · exact hv
  case snapshotRead =>
    refine kept ?_
    split
    · exact c.plain s _ (.mk ..) h
    · exact h
  case readByteTransmitted =>
    refine kept ?_
    split
    · exact c.plain s _ (.mk ..) h
    · exact h
  case stopCondition =>
    refine kept ?_
    split
    · exact c.plain s _ (.mk ..) h
    · exact h
  case flagsWrite b => exact reg fun v hv => c.plain v _ (.mk ..) hv
  case attnMaskWrite b => exact reg fun v hv => c.plain v _ (.mk ..) hv
  case pop b => exact reg fun v hv => c.popWork b hv
  case outLevelWrite b =>
    refine reg fun v hv => ?_
    unfold writeOutLevel
    dsimp only
    split
    · exact c.plain v _ (.mk ..) hv
    · exact c.plain _ _ (.mk ..) (c.outLevel v (b.setWidth 6) hv)
  case readRecord => exact byte fun v hf hv => c.readRecordWork hf hv
  case writeRecord => exact byte fun v hf hv => c.writeRecordWork hf hv
  case beginPattern => exact byte fun v hf hv => c.onPattern hf (fun p => c.beginAt p hf hv) hv
  case appendStep => exact byte fun v hf hv => c.onBuild hf (fun p hb => c.appendAt p hf hb hv) hv
  case endPattern => exact byte fun v hf hv => c.onBuild hf (fun p hb => c.endAt p hf hb hv) hv
  case abandonPattern =>
    exact byte fun v hf hv => c.onBuild hf (fun p hb => c.patternPosted hf (.abandons p hb) rfl hv) hv
  case revisePattern => exact byte fun v hf hv => c.onPattern hf (fun p => c.reviseAt p hf hv) hv
  case deletePattern => exact byte fun v hf hv => c.onPattern hf (fun p => c.deleteAt p hf hv) hv
  case enablePattern => exact byte fun v hf hv => c.onPattern hf (fun p => c.enableAt p hf hv) hv
  case disablePattern => exact byte fun v hf hv => c.onPattern hf (fun p => c.disableAt p hf hv) hv
  case armPattern => exact byte fun v hf hv => c.onPattern hf (fun p => c.armAt p hf hv) hv
  case flushTrackers =>
    exact byte fun v hf hv => c.postOk (by rw [State.work_frame]; exact hf) (c.work .flushes hv)
  case startScan => exact byte fun v hf hv => c.startScanWork hf hv
  case stopScan => exact byte fun v hf hv => c.stopScanWork hf hv
  case recalibrate => exact byte fun v hf hv => c.recalibrateWork hf hv
  case clearQueue => exact byte fun v hf hv => c.postOk hf (c.clears v hv)
  case commit => exact byte fun v hf hv => c.commitWork hf hv
  case restoreStored => exact byte fun v hf hv => c.restoreStoredWork hf hv
  case restoreFactory => exact byte fun v hf hv => c.restoreTake v _ hf hv
  case eraseStored => exact byte fun v hf hv => c.eraseStoredWork hf hv
  case reinit => exact byte fun v _ hv => c.goDown v false _ nofun hv
  case badCommand code =>
    refine kept ?_
    split
    · exact h
    · exact c.cmdByte (fun v hf hv => c.posts v _ _ hf hv) h
  case commitEraseEnd =>
    refine kept ?_
    split
    · next t g i hf => exact c.stores s _ (.erased t g i hf) h
    · exact h
  case commitProgramEnd =>
    refine kept ?_
    split
    · next t g i hf => exact c.stores s _ (.programmed t g i hf) h
    · exact h
  case commitVerifyEnd matched =>
    refine kept ?_
    split
    · next t g i hf =>
      split
      · exact c.stores s _ (.verified t g i hf) h
      · exact c.stores s _ (.fails _ t g i hf) h
    · exact h
  case commitSealEnd matched =>
    refine kept ?_
    split
    · next w t g i hf =>
      split
      · exact c.stores s _ (.sealed w t g i hf) h
      · exact c.stores s _ (.fails _ t g i hf) h
    · exact h
  case checkValueWordWritten =>
    refine kept ?_
    split
    · next t g i hf => exact c.stores s _ (.written t g i hf) h
    · exact h
  case restoreLoadEnd =>
    refine ⟨_, rfl, ?_⟩
    split
    · next x hf => exact c.restoreEnd s x hf h
    · exact c.weaken s h
  case eraseFirstBankEnd =>
    refine kept ?_
    split
    · next i j hf =>
      simp only [State.eraseNext]
      split
      · exact c.stores s _ (.eraseEnds i _ hf) h
      · exact c.stores s _ (.eraseGoesOn i j _ hf) h
    · exact h
  case eraseSecondBankEnd =>
    refine kept ?_
    split
    · next i hf => exact c.stores s _ (.eraseEnds i _ hf) h
    · exact h

/-- A law that every change keeps is kept by every step. -/
theorem step_keeps {t : State} (h : P s) (ht : step s = .next t) : Q t := by
  unfold step at ht
  split at ht
  · cases ht; exact c.weaken s h
  · next i rest hp =>
    obtain ⟨u, hu, hq⟩ := c.exec_next (s := { s with pending := rest }) (c.plain s _ (.mk ..) h) i
    rw [hu] at ht
    cases ht
    exact hq

end StepClosed

end Sys2Proof.Machine
end

section
/-! PROOF. O4, O5: the report queue (07_report_queue_and_attention.md, section 7.1) and CMD_STATUS
(08_host_port_and_command_engine.md, section 8.4). -/

namespace Sys2Proof.Machine

/-- Settles O4: pushes and pops keep the law, and a queue that is emptied meets it. -/
theorem everyStepKeepsTheQueueLaw : Obligations.EveryStepKeepsTheQueueLaw := by
  have empty : Report.Law { records := [], lost := 0 } := ⟨Nat.zero_le _, Nat.zero_le _, fun h => absurd rfl h⟩
  have chans : ChanClosed fun s => s.report.Law := {
    plain := fun | _, _, .mk .., h => h
    scanner := fun _ _ h => h, turn := fun _ _ _ _ h => h, lives := fun _ _ _ h => h, cfg := fun _ _ _ _ h => h
    push := fun s r h => Report.push_law s.report r h
    pops := fun s h => Report.pop_law s.report s.time h }
  have closed : StepClosed (fun s => s.report.Law) fun s => s.report.Law := {
    chans.scanClosed with
    weaken := fun _ h => h, posts := fun _ _ _ _ h => h, works := fun _ _ _ h => h, pulseEnd := fun _ _ h => h
    outLevel := fun _ _ h => h, writeGlobals := fun _ _ _ h => h, writeOutput := fun _ _ _ h => h
    patterns := fun _ _ ht h => by cases ht <;> exact h, stores := fun _ _ ht h => by cases ht <;> exact h
    restoreTake := fun _ _ _ h => h, rise := fun _ _ _ _ h => h
    clears := fun _ _ => empty
    restoreEnd := fun s x _ h => by
      obtain ⟨_, _, _, e⟩ := restoreEnd_frame x s
      rw [e]; exact h
    goDown := fun _ _ _ _ _ => empty
    startUp := fun s cause low _ _ => by
      obtain ⟨_, _, _, _, e⟩ := s.startUp_frame cause low
      rw [e]; exact empty }
  exact fun s t => closed.step_keeps

/-- Settles O5: what posts a result ends the command in flight, and what accepts a long command makes CMD_STATUS BUSY.
-/
theorem everyStepKeepsTheEngineLaw : Obligations.EveryStepKeepsTheEngineLaw := by
  have posted (r : Result) :
      ((if r = .ok then CmdStatus.done else .error) = .busy ↔ (none : Option LongCmd).isSome = true) := by
    split <;> simp
  have chans : ChanClosed State.EngineOk := {
    plain := fun | _, _, .mk .., h => h
    push := fun _ _ h => h, pops := fun _ h => h, scanner := fun _ _ h => h, turn := fun _ _ _ _ h => h
    lives := fun _ _ _ h => h, cfg := fun _ _ _ _ h => h }
  have closed : StepClosed State.EngineOk State.EngineOk := {
    chans.scanClosed with
    weaken := fun _ h => h, works := fun _ _ _ h => h, clears := fun _ h => h, pulseEnd := fun _ _ h => h
    outLevel := fun _ _ h => h, writeGlobals := fun _ _ _ h => h, writeOutput := fun _ _ _ h => h
    patterns := fun _ _ ht h => by cases ht <;> exact h, rise := fun _ _ _ _ h => h
    posts := fun s r d _ _ => posted r
    stores := fun s t ht h => by
      cases ht
      case commits => exact ⟨fun _ => rfl, fun _ => rfl⟩
      case eraseBegins => exact ⟨fun _ => rfl, fun _ => rfl⟩
      case sealed | eraseEnds | erasesNothing => exact posted .ok
      case fails => exact posted .storeFailed
      all_goals
        rename_i hf
        exact ⟨fun _ => rfl, fun _ => h.2 (hf ▸ rfl)⟩
    restoreTake := fun s x _ _ => ⟨fun _ => rfl, fun _ => rfl⟩
    restoreEnd := fun s x _ _ => by
      obtain ⟨_, _, _, e⟩ := restoreEnd_frame x s
      rw [e]; exact posted .ok
    goDown := fun s _ _ _ _ => ⟨nofun, nofun⟩
    startUp := fun s cause low _ _ => by
      obtain ⟨_, _, _, _, e⟩ := s.startUp_frame cause low
      rw [e]; exact ⟨nofun, nofun⟩ }
  exact fun s t => closed.step_keeps

end Sys2Proof.Machine
end

section
/-! PROOF. O8: every live record in range (02_channel_conditioning.md, sections 2.1 and 2.2). -/

namespace Sys2Proof.Machine

/-- R14: an entry to SETTLING, SUSPENDED or OFF keeps a live record in range. -/
theorem enterCleared_inRange {l : ChanLive} {st : ChanState} (hst : st ∈ [ChanState.settling, .suspended, .off])
    (h : l.InRange) : (enterCleared st l).InRange := by
  obtain ⟨hraw, hbase, href, -⟩ := h
  simp only [List.mem_cons, List.not_mem_nil, or_false] at hst
  refine ⟨hraw, hbase, href, (by decide : (-4095 : Int) ≤ 0), (by decide : (0 : Int) ≤ 4095), Nat.zero_le _,
      Nat.zero_le _, fun _ => Nat.zero_le _, Nat.zero_le _,
    fun _ => (by decide : 0 < 8), Nat.zero_le _, fun _ => ?_, fun _ => rfl⟩
  rcases hst with rfl | rfl | rfl <;> exact nofun

/-- R14: an entry to FAULT keeps a live record in range. -/
theorem enterFault_inRange {l : ChanLive} {r : FaultReason} (hr : r ≠ .none) (hraw : l.raw ≤ 4095)
    (hbase : l.baseline ≤ 4095) (href : l.reference ≤ 4095) (hlo : -4095 ≤ l.signal) (hhi : l.signal ≤ 4095)
    (hsat : l.satCount ≤ 3) (hcount : l.settleCount ≤ 8) (hsum : l.settleSum ≤ 4095 * l.settleCount) :
    (enterFault r l).InRange :=
  ⟨hraw, hbase, href, hlo, hhi, Nat.zero_le _, hsat, nofun, hcount, nofun, hsum, fun h => absurd h hr,
    fun h => absurd rfl h⟩

/-- R15, R16: what a result leaves of the ranges before the step of the channel's state. -/
theorem counted_ranges {l : ChanLive} (raw : Fin 4096) (hm : l.state.isMeasured = true) (h : l.InRange) :
    (l.counted raw).satCount ≤ 3 ∧ ((l.counted raw).satCount ≤ 2 → (l.counted raw).InRange) := by
  obtain ⟨hraw, hbase, href, hlo, hhi, hdeb, hsat, hsat2, hcount, hset, hsum, hfault⟩ := h
  have hs := hsat2 hm
  refine ⟨?_, fun h2 =>
      ⟨Nat.le_of_lt_succ raw.isLt, hbase, href, ?_, ?_, hdeb, by omega, fun _ => h2, hcount, hset, hsum, hfault⟩⟩
  · simp only [ChanLive.counted]; split
    · split <;> omega
    · omega
  · simp only [ChanLive.counted]; omega
  · have := raw.isLt
    simp only [ChanLive.counted]; omega

/-- R17: a result in SETTLING. -/
theorem settleStep_inRange {l : ChanLive} (hs : l.state = .settling) (h : l.InRange) : (settleStep l).InRange := by
  obtain ⟨hraw, hbase, href, hlo, hhi, hdeb, hsat, hsat2, hcount, hset, hsum, hfault⟩ := h
  have h2 := hsat2 (hs ▸ rfl)
  have h8 := hset hs
  have hf := hfault.2 (hs ▸ nofun)
  unfold settleStep
  dsimp only
  split
  · refine ⟨hraw, hbase, href, hlo, hhi, hdeb, hsat, fun _ => h2, ?_, ?_, ?_, hfault⟩ <;> dsimp only <;> omega
  · refine ⟨hraw, ?_, ?_, ?_, ?_, ?_, hsat, fun _ => h2, ?_, nofun, ?_, fun _ => nofun,
      fun _ => hf⟩ <;> dsimp only <;> omega

/-- R24: a stuck press. -/
theorem declareStuck_inRange {l : ChanLive} (c : Chan) (now : Time) (hm : l.state.isMeasured = true) (h : l.InRange) :
    (declareStuck c now l).1.InRange := by
  obtain ⟨hraw, hbase, href, hlo, hhi, hdeb, hsat, hsat2, hcount, hset, hsum, hfault⟩ := h
  exact ⟨hraw, hraw, href, by simp [declareStuck], by simp [declareStuck], Nat.zero_le _, hsat, fun _ => hsat2 hm,
    hcount, nofun, hsum, fun _ => nofun, fun _ => hfault.2 (by rintro e; rw [e] at hm; cases hm)⟩

/-- R18 to R23: a channel away from SETTLING that takes another measured state with a debounce count in range. -/
theorem inRange_of_step {l l' : ChanLive} (hm : l.state.isMeasured = true) (h : l.InRange)
    (hm' : l'.state ∈ [ChanState.idle, .arming, .pressed, .releasing]) (hd : l'.debounce ≤ 15) (hb : l'.baseline ≤ 4095)
    (hraw : l'.raw = l.raw) (href : l'.reference = l.reference) (hsig : l'.signal = l.signal)
    (hsat : l'.satCount = l.satCount) (hcount : l'.settleCount = l.settleCount) (hsum : l'.settleSum = l.settleSum)
    (hreason : l'.faultReason = l.faultReason) : l'.InRange := by
  obtain ⟨h1, -, h3, h4, h5, -, h7, h8, h9, -, h11, h12⟩ := h
  have hf : l.faultReason = .none := h12.2 (by rintro e; rw [e] at hm; cases hm)
  have ne : l'.state ≠ .settling ∧ l'.state ≠ .fault := by
    constructor <;> (intro e; rw [e] at hm'; revert hm'; decide)
  rw [ChanLive.InRange, hraw, href, hsig, hsat, hcount, hsum, hreason]
  exact ⟨h1, hb, h3, h4, h5, hd, h7, fun _ => h8 hm, h9, fun e => absurd e ne.1, h11, fun _ => ne.2, fun _ => hf⟩

/-- R19: the baseline step moves BASELINE by at most one, toward RAW or down. -/
theorem baselineStep_ranges (cfg : ChanCfg) {l : ChanLive} (hraw : l.raw ≤ 4095) (hbase : l.baseline ≤ 4095) :
    (baselineStep cfg l).baseline ≤ 4095 ∧ ∃ b k, baselineStep cfg l = { l with baseline := b, track := k } := by
  unfold baselineStep
  split
  · exact ⟨by dsimp only; omega, _, _, rfl⟩
  · split
    · exact ⟨hbase, _, _, rfl⟩
    · split
      · refine ⟨?_, _, _, rfl⟩
        dsimp only
        split
        · omega
        · split <;> omega
      · exact ⟨hbase, _, _, rfl⟩

/-- R18 to R23: the threshold step. -/
theorem thresholdStep_inRange {cfg : ChanCfg} (c : Chan) (t now : Time) {l : ChanLive} (hw : cfg.wf = true)
    (hm : l.state.isMeasured = true) (h : l.InRange) : (thresholdStep cfg c t now l).1.InRange := by
  have hdb : cfg.pressDb ≤ 15 ∧ cfg.releaseDb ≤ 15 := by
    simp only [ChanCfg.wf, Bool.and_eq_true, decide_eq_true_eq] at hw
    omega
  have hbase : l.baseline ≤ 4095 := h.2.1
  have hdeb : l.debounce ≤ 15 := h.2.2.2.2.2.1
  have mov (l' : ChanLive) (hm' : l'.state ∈ [ChanState.idle, .arming, .pressed, .releasing]) (hd : l'.debounce ≤ 15)
      (he : l' = { l with state := l'.state, debounce := l'.debounce, track := l'.track, pressTime := l'.pressTime }) :
      l'.InRange :=
    inRange_of_step hm h hm' hd (by rw [he]; exact hbase) (by rw [he]) (by rw [he]) (by rw [he]) (by rw [he])
      (by rw [he]) (by rw [he]) (by rw [he])
  have track (hs : l.state = .idle) : (trackStep cfg c now l).1.InRange := by
    have ⟨hraw, hbase, href, hlo, hhi, _, hsat, _, hcount, _, hsum, _⟩ := h
    obtain ⟨hb, b, k, e⟩ := baselineStep_ranges cfg hraw hbase
    unfold trackStep
    dsimp only
    rw [e] at hb ⊢
    split
    · exact enterFault_inRange nofun hraw hb href hlo hhi hsat hcount hsum
    · exact inRange_of_step hm h (by simp [hs]) hdeb hb rfl rfl rfl rfl rfl rfl rfl
  unfold thresholdStep
  dsimp only
  split
  · next hst =>
    split
    · split
      · exact mov _ (by simp [confirmPress]) (Nat.zero_le _) rfl
      · exact mov _ (by simp) (by decide : 1 ≤ 15) rfl
    · exact track hst
  · split
    · split
      · exact mov _ (by simp [confirmPress]) (Nat.zero_le _) rfl
      · exact mov _ (by simp [*]) (by dsimp only; omega) rfl
    · exact mov _ (by simp [enterIdle]) (Nat.zero_le _) rfl
  · split
    · split
      · exact mov _ (by simp [confirmRelease, enterIdle]) (Nat.zero_le _) rfl
      · exact mov _ (by simp) (by decide : 1 ≤ 15) rfl
    · exact h
  · split
    · split
      · exact mov _ (by simp [confirmRelease, enterIdle]) (Nat.zero_le _) rfl
      · exact mov _ (by simp [*]) (by dsimp only; omega) rfl
    · exact mov _ (by simp) (Nat.zero_le _) rfl
  all_goals exact h

/-- R15: a result leaves the live record in range. -/
theorem chanResult_inRange {cfg : ChanCfg} (c : Chan) (raw : Fin 4096) (t now : Time) {l : ChanLive}
    (hw : cfg.wf = true) (h : l.InRange) : (chanResult cfg c raw.val t now l).1.InRange := by
  unfold chanResult
  split
  · next hm =>
    rw [countSaturation_takeRaw]
    obtain ⟨h3, hr⟩ := counted_ranges raw hm h
    have hm1 : (l.counted raw).state.isMeasured = true := hm
    dsimp only
    split
    · obtain ⟨-, hbase, href, -, -, -, -, -, hcount, -, hsum, -⟩ := h
      refine enterFault_inRange ?_ (Nat.le_of_lt_succ raw.isLt) hbase href ?_ ?_ h3 hcount hsum
      · split <;> nofun
      all_goals
        have := raw.isLt
        simp only [ChanLive.counted]; omega
    · next hsat =>
      have h1 := hr (by omega)
      split
      · next hs => exact settleStep_inRange hs h1
      · next hs =>
        split
        · exact declareStuck_inRange c now hm1 h1
        · exact thresholdStep_inRange c t now hw hm1 h1
  · exact h

/-- A channel's turn leaves its live record in range. -/
theorem ChanTurn.inRange {s : State} {c : Chan} {r : ChanLive × List Notice} (ht : ChanTurn s c r)
    (hw : s.chanCfg[c].wf = true) (h : s.chanLive[c].InRange) : r.1.InRange := by
  cases ht with
  | result raw t => exact chanResult_inRange c raw t s.time hw h
  | leaves target cause ht => exact enterCleared_inRange ht h

/-- R36: the live record at the end of a load. -/
theorem zero_inRange {st : ChanState} (hst : st ≠ .fault) : (ChanLive.zero st).InRange :=
  ⟨Nat.zero_le _, Nat.zero_le _, Nat.zero_le _, (by decide : (-4095 : Int) ≤ 0), (by decide : (0 : Int) ≤ 4095),
    Nat.zero_le _, Nat.zero_le _, fun _ => Nat.zero_le _,
    Nat.zero_le _, fun _ => (by decide : 0 < 8), Nat.zero_le _, fun _ => hst, fun _ => rfl⟩

theorem applyImage_liveOk (i : Image) (s : State) : (s.applyImage i).LiveOk := by
  intro c
  simp only [State.applyImage, getElem_ofFn_fin]
  refine zero_inRange ?_
  split
  · nofun
  · split <;> nofun

/-- Settles O8: the law with the premise is kept by all but the loads, which put every live record at 0. -/
theorem everyStepKeepsLiveRecordsInRange : Obligations.EveryStepKeepsLiveRecordsInRange := by
  have chans : ChanClosed fun s => (∀ c : Chan, s.chanCfg[c].wf = true) ∧ s.LiveOk := {
    plain := fun | _, _, .mk .., h => h
    push := fun _ _ h => h, pops := fun _ h => h, scanner := fun _ _ h => h
    turn := fun s c r ht ⟨hw, h⟩ => ⟨hw, fun d => by
      simp only [State.afterTurn, State.putRecog_chanLive, State.setLive_chanLive, getElem_set_fin]
      split
      · exact ht.inRange (hw c) (h c)
      · exact h d⟩
    lives := fun s live hl ⟨hw, h⟩ => ⟨hw, fun c => by
      rcases hl c with e | ⟨-, st, hst, e⟩
      · exact e ▸ h c
      · exact e ▸ enterCleared_inRange hst (h c)⟩
    cfg := fun s c cfg hc ⟨hw, h⟩ => ⟨fun d => by
      simp only [getElem_set_fin]
      split
      · exact hc
      · exact hw d, h⟩ }
  have closed : StepClosed (fun s => (∀ c : Chan, s.chanCfg[c].wf = true) ∧ s.LiveOk) State.LiveOk := {
    chans.scanClosed with
    posts := fun _ _ _ _ h => h, works := fun _ _ _ h => h, clears := fun _ h => h, pulseEnd := fun _ _ h => h
    outLevel := fun _ _ h => h, writeGlobals := fun _ _ _ h => h, writeOutput := fun _ _ _ h => h
    patterns := fun _ _ ht h => by cases ht <;> exact h, stores := fun _ _ ht h => by cases ht <;> exact h
    rise := fun _ _ _ _ h => h
    weaken := fun _ h => h.2
    restoreTake := fun s x _ ⟨hw, h⟩ => ⟨hw, fun c => by
      simp only [restoreTake, getElem_ofFn_fin]
      exact enterCleared_inRange (by decide) (h c)⟩
    restoreEnd := fun s x _ _ => by
      obtain ⟨_, _, _, e⟩ := restoreEnd_frame x s
      rw [e]; exact applyImage_liveOk _ s
    goDown := fun s _ _ _ ⟨hw, _⟩ => ⟨hw, fun c => by
      simp only [State.goDown, Fin.getElem_fin, Vector.getElem_replicate]
      exact zero_inRange nofun⟩
    startUp := fun s cause low _ _ => by
      obtain ⟨_, _, _, _, e⟩ := s.startUp_frame cause low
      rw [e]; exact applyImage_liveOk _ s }
  exact fun s t hw h => closed.step_keeps ⟨hw, h⟩

end Sys2Proof.Machine
end

section
/-! PROOF. O14: the store's record of the banks (09_configuration_store_and_start_up.md, sections 9.1 and 9.5). First
the items of the banks and what an examination finds of each, then the law bank by bank, then the commands of the store.
-/

namespace Sys2Proof.Machine

/-! ## Banks -/

@[simp] theorem Banks.get_put_same {α : Type} (x : Banks α) (i : BankId) (v : α) : (x.put i v).get i = v := by
  cases i <;> rfl

theorem Banks.get_put {α : Type} (x : Banks α) (i k : BankId) (v : α) :
    (x.put i v).get k = if k = i then v else x.get k := by
  cases i <;> cases k <;> rfl

theorem BankId.other_ne (i : BankId) : i.other ≠ i := by cases i <;> decide

@[simp] theorem BankId.other_other (i : BankId) : i.other.other = i := by cases i <;> rfl

theorem judge_unformatted (n : NvBank) : n.unformatted.judge = .damaged := rfl

theorem examine_unformatted (n : NvBank) : n.unformatted.examine = BankRec.damaged := rfl

theorem examine_blank : NvBank.blank.examine = BankRec.blank := rfl

theorem examine_sealed (g : BitVec 16) (i : Image) :
    (NvBank.sealed g i).examine = { state := .valid, generation := g } := rfl

/-! ## The law, bank by bank -/

/-- R162: the record of every bank but the one being written is what an examination would find. -/
def Store.RecordsTrue (st : Store) (written : Option BankId) : Prop :=
  ∀ k, written ≠ some k → st.record.get k = (st.nv.get k).examine

theorem State.storeOk_iff (s : State) : s.StoreOk ↔
    (s.mode = .running → s.store.RecordsTrue s.engine.bankWritten ∧ s.commitStands = true) := by
  constructor
  · intro h hm
    obtain ⟨ha, hb, hc⟩ := h hm
    exact ⟨fun k => match k with | .a => ha | .b => hb, hc⟩
  · intro h hm
    obtain ⟨hr, hc⟩ := h hm
    exact ⟨hr .a, hr .b, hc⟩

/-- Of a part with no long command at work on a bank, only the records count. -/
theorem State.storeOk_of_noBank {s : State} (hw : s.engine.bankWritten = none) (hr : s.mode = .running →
    s.store.RecordsTrue none) : s.StoreOk := by
  refine s.storeOk_iff.2 fun hm => ⟨hw ▸ hr hm, ?_⟩
  unfold State.commitStands
  unfold Engine.bankWritten at hw
  split at hw <;> simp_all

/-- What is written to one bank leaves the record of the other true. -/
theorem Store.RecordsTrue.setBank {st : Store} {written : Option BankId} {i : BankId} {n : NvBank} {r : BankRec}
    (h : st.RecordsTrue written) (hi : written = none ∨ written = some i) :
    (st.setBank i n r).RecordsTrue (some i) := by
  intro k hk
  have hki : k ≠ i := fun e => hk (e ▸ rfl)
  simp only [Store.setBank, Banks.get_put, if_neg hki]
  refine h k ?_
  rcases hi with rfl | rfl
  · nofun
  · exact hk

/-- A bank written together with the record of its examination is no longer excepted. -/
theorem Store.RecordsTrue.examined {st : Store} {written : Option BankId} {i : BankId} {n : NvBank} {r : BankRec}
    (h : st.RecordsTrue written) (hi : written = none ∨ written = some i) (hr : r = n.examine) :
    (st.setBank i n r).RecordsTrue none := by
  intro k _
  by_cases hk : k = i
  · subst hk; simpa [Store.setBank] using hr
  · exact h.setBank hi k fun e => hk (Option.some.inj e).symm

/-- R163: the current bank is VALID. -/
theorem Store.current_valid {st : Store} {i : BankId} (h : st.current = some i) : (st.record.get i).state = .valid := by
  unfold Store.current at h
  cases ha : st.record.a.state <;> cases hb : st.record.b.state <;> simp only [ha, hb] at h
  case valid.valid =>
    split at h <;> cases h
    · exact hb
    · exact ha
  all_goals cases h <;> assumption

/-- R163: no bank is current where none is VALID. -/
theorem Store.current_eq_none_iff (st : Store) :
    st.current = none ↔ st.record.a.state ≠ .valid ∧ st.record.b.state ≠ .valid := by
  unfold Store.current
  cases st.record.a.state <;> cases st.record.b.state
  case valid.valid => dsimp only; split <;> simp
  all_goals simp

/-- R171: GENERATION and target of a commit, by the record of the bank that it leaves alone. -/
def Store.Targets (st : Store) (t : BankId) (g : BitVec 16) : Prop :=
  if (st.record.get t.other).state = .valid then g = (st.record.get t.other).generation + 1 else t = .a ∧ g = 1

theorem Store.commitTarget_targets {st : Store} {t : BankId} {g : BitVec 16} (h : st.commitTarget = (t, g)) :
    st.Targets t g := by
  unfold Store.commitTarget at h
  unfold Store.Targets
  split at h
  · next i hc =>
    cases h
    rw [BankId.other_other, if_pos (st.current_valid hc)]
  · next hc =>
    cases h
    exact (if_neg (st.current_eq_none_iff.1 hc).2).symm ▸ ⟨rfl, rfl⟩

theorem Store.targets_setBank (st : Store) (t : BankId) (n : NvBank) (r : BankRec) (g : BitVec 16) :
    (st.setBank t n r).Targets t g ↔ st.Targets t g := by
  simp only [Store.Targets, Store.setBank, Banks.get_put, if_neg t.other_ne]

/-- R172, R174: what a phase of a commit has left in the target and in the record of it. -/
def CommitPhase.Left (ph : CommitPhase) (g : BitVec 16) (i : Image) (n : NvBank) (r : BankRec) : Prop :=
  match ph with
  | .erase => n.judge = .damaged ∧ r = BankRec.damaged
  | .program => n.judge = .damaged ∧ r = BankRec.blank
  | .verify | .seal false => n = NvBank.programmed g i ∧ r = BankRec.damaged
  | .seal true => n = NvBank.sealed g i ∧ r = BankRec.damaged

theorem Store.commitStands_iff (st : Store) (ph : CommitPhase) (t : BankId) (g : BitVec 16) (i : Image) :
    st.commitStands ph t g i = true ↔ ph.Left g i (st.nv.get t) (st.record.get t) ∧ st.Targets t g := by
  unfold Store.commitStands Store.Targets CommitPhase.Left
  rw [Bool.and_eq_true]
  refine and_congr ?_ ?_
  · rcases ph with _ | _ | _ | _ | _ <;> simp
  · split <;> simp

/-- R172: a commit goes on to a phase that the write to its target has prepared. -/
theorem Store.commitStands_setBank {st : Store} {ph : CommitPhase} {t : BankId} {g : BitVec 16} {i : Image}
    {n : NvBank} {r : BankRec} (ht : st.Targets t g) (hl : ph.Left g i n r) :
    (st.setBank t n r).commitStands ph t g i = true := by
  refine (Store.commitStands_iff ..).2 ⟨?_, (st.targets_setBank t n r g).2 ht⟩
  simpa only [Store.setBank, Banks.get_put_same] using hl

/-- Settles O14: each command of the store, by the bank it writes. -/
theorem everyStepKeepsTheStoreRecord : Obligations.EveryStepKeepsTheStoreRecord := by
  have chans : ChanClosed State.StoreOk := {
    plain := fun | _, _, .mk .., h => h
    push := fun _ _ h => h, pops := fun _ h => h, scanner := fun _ _ h => h, turn := fun _ _ _ _ h => h
    lives := fun _ _ _ h => h, cfg := fun _ _ _ _ h => h }
  have closed : StepClosed State.StoreOk State.StoreOk := {
    chans.scanClosed with
    weaken := fun _ h => h, works := fun _ _ _ h => h, clears := fun _ h => h, pulseEnd := fun _ _ h => h
    outLevel := fun _ _ h => h, writeGlobals := fun _ _ _ h => h, writeOutput := fun _ _ _ h => h
    patterns := fun _ _ ht h => by cases ht <;> exact h
    posts := fun s r d hf h => State.storeOk_of_noBank rfl fun hm => by
      have := (s.storeOk_iff.1 h hm).1
      rwa [Engine.bankWritten, hf] at this
    stores := fun s t ht h => by
      have records (hm : s.mode = .running) : s.store.RecordsTrue s.engine.bankWritten := (s.storeOk_iff.1 h hm).1
      have stands {ph t g i} (hf : s.engine.inFlight = some (.commit ph t g i)) (hm : s.mode = .running) :
          s.store.commitStands ph t g i = true := by
        have := (s.storeOk_iff.1 h hm).2
        rwa [State.commitStands, hf] at this
      have none_written (hf : s.engine.inFlight = none) : s.engine.bankWritten = none := by rw [Engine.bankWritten, hf]
      have target {ph t g i} (hf : s.engine.inFlight = some (.commit ph t g i)) : s.engine.bankWritten = some t := by
        rw [Engine.bankWritten, hf]
      have erasing {i f} (hf : s.engine.inFlight = some (.erase i f)) : s.engine.bankWritten = some i := by
        rw [Engine.bankWritten, hf]
      cases ht with
      | commits t g ht hf hb =>
        exact (State.storeOk_iff _).2 fun hm => ⟨(records hm).setBank (.inl (none_written hf)),
          Store.commitStands_setBank (ph := .erase) (i := s.commitImage) (s.store.commitTarget_targets ht) ⟨rfl, rfl⟩⟩
      | erased t g i hf =>
        exact (State.storeOk_iff _).2 fun hm => ⟨(records hm).setBank (.inr (target hf)),
          Store.commitStands_setBank (ph := .program) (i := i)
            ((Store.commitStands_iff ..).1 (stands hf hm)).2 ⟨rfl, rfl⟩⟩
      | programmed t g i hf =>
        exact (State.storeOk_iff _).2 fun hm => ⟨(records hm).setBank (.inr (target hf)),
          Store.commitStands_setBank (ph := .verify) ((Store.commitStands_iff ..).1 (stands hf hm)).2 ⟨rfl, rfl⟩⟩
      | verified t g i hf =>
        refine (State.storeOk_iff _).2 fun hm => ⟨?_, stands hf hm⟩
        exact fun k hk => records hm k (target hf ▸ hk)
      | written t g i hf =>
        refine (State.storeOk_iff _).2 fun hm => ?_
        obtain ⟨⟨-, hd⟩, ht⟩ := (Store.commitStands_iff ..).1 (stands hf hm)
        have e : ({ s.store with nv := s.store.nv.put t (NvBank.sealed g i) } : Store)
            = s.store.setBank t (NvBank.sealed g i) BankRec.damaged := by
          rw [← hd]
          cases t <;> rfl
        rw [e]
        exact ⟨(records hm).setBank (.inr (target hf)), Store.commitStands_setBank (ph := .seal true) ht ⟨rfl, rfl⟩⟩
      | sealed w t g i hf =>
        exact State.storeOk_of_noBank rfl fun hm => (records hm).examined (.inr (target hf)) rfl
      | fails ph t g i hf =>
        exact State.storeOk_of_noBank rfl fun hm => (records hm).examined (.inr (target hf)) rfl
      | eraseBegins c i f hf =>
        exact (State.storeOk_iff _).2 fun hm => ⟨(records hm).setBank (.inl (none_written hf)), rfl⟩
      | erasesNothing c hf => exact State.storeOk_of_noBank rfl fun hm => none_written hf ▸ records hm
      | eraseGoesOn i j f hf =>
        exact (State.storeOk_iff _).2 fun hm =>
          ⟨((records hm).examined (.inr (erasing hf)) examine_blank.symm).setBank (.inl rfl), rfl⟩
      | eraseEnds i f hf =>
        exact State.storeOk_of_noBank rfl fun hm => (records hm).examined (.inr (erasing hf)) rfl
    restoreTake := fun s x hf h => State.storeOk_of_noBank rfl fun hm => by
      have := (s.storeOk_iff.1 h hm).1
      rwa [Engine.bankWritten, hf] at this
    restoreEnd := fun s x hf h => by
      obtain ⟨_, _, _, e⟩ := restoreEnd_frame x s
      refine State.storeOk_of_noBank (by rw [e]; rfl) fun hm => ?_
      rw [e] at hm ⊢
      have := (s.storeOk_iff.1 h hm).1
      rwa [Engine.bankWritten, hf] at this
    goDown := fun s _ m hm _ => (State.storeOk_iff _).2 fun e => absurd e hm
    rise := fun s m _ hm _ => (State.storeOk_iff _).2 fun e => absurd e hm
    startUp := fun s cause low _ _ => by
      obtain ⟨_, _, _, _, e⟩ := s.startUp_frame cause low
      rw [e]
      exact State.storeOk_of_noBank rfl fun _ k _ => by cases k <;> rfl }
  exact fun s t => closed.step_keeps

end Sys2Proof.Machine
end

section
/-! PROOF. What the matcher's work does between its endings and completions, said once for properties that an ending or
a completion keeps as a whole, with the cascade it sets off, and that a primitive change inside one may break
(05_priority_claims_and_deferred_completion.md, section 5.4). -/

namespace Sys2Proof.Machine

/-- A property of the changeable state that whole endings and completions keep, and the other changes of a tracker. -/
structure WorkClosed (e : Env) (P : Recog → Prop) : Prop where
  ends : ∀ t reason time st w, (st = .ready ∨ st = .disabled) → P w → P (endTracker e t reason time st w)
  completes : ∀ t te w, P w → P (complete e cascadeDepth t te false te w)
  moves : ∀ t x y w, w.trackers[t] = .waiting x → x.Moves (e.pat x.pattern).steps.length y → P w →
    P (w.setTracker t (.waiting y))
  pends : ∀ t x te w, w.trackers[t] = .waiting x → blockersOf e x.pattern w.trackers ≠ 0 → P w →
    P (w.setTracker t (.pending (x.toPending te (blockersOf e x.pattern w.trackers))))
  starts : ∀ t p time w w0, w.trackers[t] = .free → P w → P w0 → w0.pstate[p] = .ready →
    (w = w0 ∨ ∃ v, w = endTracker e v .evicted time .ready w0) →
    P ((w.setTracker t (.waiting (newWaiting (e.pat p) p time))).setPat p .active)
  refuses : ∀ p time w, P w → P (refuseStart e p time w)

namespace WorkClosed

variable {e : Env} {P : Recog → Prop} (c : WorkClosed e P) {w : Recog}

include c

theorem resolve {t : SlotIdx} {te : Time} (h : P w) : P (resolve e t te w) := by
  unfold Machine.resolve
  split
  · next x hx =>
    dsimp only
    split
    · next hb =>
      refine c.pends t x te w hx (fun h0 => ?_) h
      simp [h0] at hb
    · exact c.completes t te w h
  · exact h
  · exact h

theorem settle {t : SlotIdx} {x : Waiting} {p : Progress} (hx : w.trackers[t] = .waiting x)
    (hp : x.Moves (e.pat x.pattern).steps.length p.record) (h : P w) : P (settle e t p w) := by
  have moved := c.moves t x p.record w hx hp h
  cases p with
  | stay y => exact moved
  | candidate y te => exact c.resolve moved
  | abort y reason time => exact c.ends _ _ _ _ _ (.inl rfl) moved

theorem takeDue {d : Due} (h : P w) : P (takeDue e d w) := by
  unfold Machine.takeDue
  split
  · next x hx =>
    split
    · exact c.ends _ _ _ _ _ (.inl rfl) h
    · exact c.settle hx (takeStepDue_moves ..) h
  · exact h
  · exact h

theorem takeDues {t : Time} {n : Nat} (h : P w) : P (takeDues e t n w) := by
  induction n generalizing w with
  | zero => exact h
  | succ n ih =>
    unfold Machine.takeDues
    split
    · exact h
    · exact ih (c.takeDue h)

theorem stage1 {ev : Event} (h : P w) : P (stage1 e ev w) := c.takeDues h

theorem stage3 {ev : Event} (h : P w) : P (stage3 e ev w).1 := by
  refine foldl_keeps (P := fun acc : Recog × List (SlotIdx × Time) => P acc.1) _ (fun acc t ha => ?_) _ _ h
  unfold offerSlot
  split
  · next x hx =>
    have hm := offerEvent_moves (e.pat x.pattern) acc.1.held ev x
    split
    · next y hy => rw [hy] at hm; exact c.moves t x y _ hx hm ha
    · next y te hy => rw [hy] at hm; exact c.moves t x y _ hx hm ha
    · next y r j hy => rw [hy] at hm; exact c.ends _ _ _ _ _ (.inl rfl) (c.moves t x y _ hx hm ha)
  · exact ha
  · exact ha

theorem stage4 {cands : List (SlotIdx × Time)} (h : P w) : P (stage4 e cands w) := by
  refine foldl_keeps _ (fun v t hv => ?_) _ _ h
  split
  · exact hv
  · exact c.resolve hv

theorem startIn {p : PatIdx} {time : Time} {t : SlotIdx} {w0 : Recog} (ht : w.trackers[t] = .free) (h : P w)
    (h0 : P w0) (hr : w0.pstate[p] = .ready) (hw : w = w0 ∨ ∃ v, w = endTracker e v .evicted time .ready w0) :
    P (startIn e p time t w) := by
  refine c.settle (x := newWaiting (e.pat p) p time) ?_ (startProgress_moves ..) (c.starts t p time w w0 ht h h0 hr hw)
  simp

theorem takeStart {p : PatIdx} {time : Time} (hr : w.pstate[p] = .ready) (h : P w) : P (takeStart e p time w) := by
  unfold Machine.takeStart
  split
  · next t ht => exact c.startIn (freeSlot_free ht) h h hr (.inl rfl)
  · split
    · exact c.refuses p time w h
    · next v _ =>
      have h1 := c.ends v .evicted time .ready w (.inl rfl) h
      dsimp only
      split
      · exact h1
      · split
        · next t ht => exact c.startIn (freeSlot_free ht) h1 h hr (.inr ⟨v, rfl⟩)
        · exact h1

theorem stage5 {ev : Event} (h : P w) : P (stage5 e ev w) := by
  unfold Machine.stage5
  split
  · refine foldl_keeps _ (fun v p hv => ?_) _ _ h
    split
    · next ho =>
      simp only [offered, Bool.and_eq_true, beq_iff_eq] at ho
      exact c.takeStart ho.1.1.1 hv
    · exact hv
  · exact h

/-- Stages 3 to 5 of an event, each on what stage 2 left. -/
theorem matchEvent {ev : Event} (h : P (stage2 e ev (Machine.stage1 e ev { w with ended := 0, claimed := 0 }))) :
    P (matchEvent e ev w) := c.stage5 (c.stage4 (c.stage3 h))

theorem nextDueTaken {t : Time} (h : P w) : P (match nextDue e t w with
    | none => w
    | some d => Machine.takeDue e d w) := by
  split
  · exact h
  · exact c.takeDue h

end WorkClosed

/-- A property that the primitive changes keep is kept by the whole ones. -/
theorem EventClosed.workClosed {e : Env} {P : Recog → Prop} (c : EventClosed e P) : WorkClosed e P where
  ends := c.endTracker
  completes _ _ w h := c.complete _ _ _ _ _ w h
  moves := c.moves
  pends := c.pends
  starts := c.starts
  refuses := c.refuses

end Sys2Proof.Machine
end

section
/-! PROOF. O6 and O9. What the matcher does to the held set and to the outputs: outside stage 2 the held set stays what
it is, and the outputs change by pattern actions alone (04_trackers_and_step_matching.md, section 4.9). -/

namespace Sys2Proof.Machine

/-! ## Held set and outputs in the matcher's work -/

/-- A property of held set and outputs that pattern actions keep. -/
def ActClosed (e : Env) (R : ChanSet → Vector OutState 6 → Prop) : Prop :=
  ∀ a (w : Recog), R w.held w.outs → R w.held (w.act e a).outs

/-- Whether a property of held set and outputs holds in a changeable state. -/
def Recog.Meets (w : Recog) (R : ChanSet → Vector OutState 6 → Prop) : Prop := R w.held w.outs

theorem act_held (e : Env) (a : Action) (w : Recog) : (w.act e a).held = w.held := by
  unfold Recog.act; split <;> rfl

namespace ActClosed

variable {e : Env} {R : ChanSet → Vector OutState 6 → Prop} (c : ActClosed e R) {w : Recog}

theorem offerIf {b : Bool} {r : Record} (h : w.Meets R) : (w.offerIf b r).Meets R := by
  cases b <;> exact h

theorem endSlot {t : SlotIdx} {reason : Reason} {time : Time} {st : PatState} (h : w.Meets R) :
    (endSlot e t reason time st w).Meets R := by
  unfold Machine.endSlot
  split
  · exact h
  · exact offerIf (w := w) h

include c

theorem completeSlot {t : SlotIdx} {p : PatIdx} {te : Time} {deferred : Bool} {time : Time} (h : w.Meets R) :
    (completeSlot e t p te deferred time w).Meets R := by
  have acts (a : Option Action) {v : Recog} (hv : v.Meets R) : (actOpt e a v).Meets R := by
    cases a with
    | none => exact hv
    | some a =>
      have := c a v hv
      rwa [← act_held e a v] at this
  exact acts _ (offerIf h)

/-- Endings and completions, with all that follows from them. -/
theorem endClosed : EndClosed e fun w => w.Meets R where
  ends _ _ _ _ _ _ h := endSlot h
  completes _ _ _ _ _ _ _ h := c.completeSlot h
  unblocks _ _ h := h
  claims _ _ h := h

theorem workClosed : WorkClosed e fun w => w.Meets R where
  ends t reason time st w _ h := by
    unfold endTracker
    split
    · exact h
    · exact releaseBy_keeps (fun _ _ h => h) _ _ (fun u v hv => c.endClosed.complete _ _ _ _ _ v hv) _ (endSlot h)
  completes _ _ w h := c.endClosed.complete _ _ _ _ _ w h
  moves _ _ _ _ _ _ h := h
  pends _ _ _ _ _ _ h := h
  starts _ _ _ _ _ _ h _ _ _ := h
  refuses _ _ _ h := offerIf h

/-- R83, R108, R56: the work of the matcher outside any event of a channel. -/
theorem trackWork {s : State} {f : Env → Recog → Recog} (hf : TrackWork s f) (h : w.Meets R) : (f e w).Meets R := by
  cases hf with
  | idles => exact h
  | takesDue => exact c.workClosed.nextDueTaken h
  | flushes => exact c.endClosed.flushWork w h
  | disables p _ =>
    unfold disableActive
    split
    · exact h
    · exact c.workClosed.ends _ _ _ _ _ (.inr rfl) h

end ActClosed

/-! ## The held set (R62) -/

theorem heldFixed (e : Env) (set : ChanSet) : ActClosed e fun held _ => held = set := fun _ _ h => h

/-- R62: what an event makes of the held set. -/
def heldAfter (ev : Event) (held : ChanSet) : ChanSet :=
  if ev.press then held ||| chanBit ev.chan else held &&& ~~~(chanBit ev.chan)

theorem stage2_held (e : Env) (ev : Event) (w : Recog) : (stage2 e ev w).held = heldAfter ev w.held := by
  unfold stage2 heldAfter; split <;> rfl

theorem stage2_outs (e : Env) (ev : Event) (w : Recog) : (stage2 e ev w).outs = w.outs := by
  unfold stage2; split <;> rfl

theorem stage1_held (e : Env) (ev : Event) (w : Recog) : (stage1 e ev w).held = w.held :=
  (heldFixed e w.held).workClosed.stage1 (w := w) rfl

theorem matchEvent_held (e : Env) (ev : Event) (w : Recog) : (matchEvent e ev w).held = heldAfter ev w.held :=
  (heldFixed e _).workClosed.matchEvent (by rw [Recog.Meets, stage2_held, stage1_held])

theorem handOn_held (report : Bool) (ev : Event) (e : Env) (w : Recog) :
    (handOn report ev e w).held = heldAfter ev w.held := by
  have offer : (w.offerIf report (eventRecord ev)).held = w.held := by cases report <;> rfl
  unfold handOn
  dsimp only
  rw [← offer, ← matchEvent_held e]
  split <;> split <;> rfl

theorem noteFault_held (report : Bool) (c : Chan) (reason : FaultReason) (e : Env) (w : Recog) :
    (noteFault report c reason e w).held = w.held := by cases report <;> rfl

/-- What the notices of a turn make of the held set. -/
def heldBy (ns : List Notice) (held : ChanSet) : ChanSet :=
  ns.foldl (fun held n => match n with
    | .event ev => heldAfter ev held
    | .faulted _ => held) held

theorem handAll_held (report : Bool) (c : Chan) (ns : List Notice) (e : Env) (w : Recog) :
    (handAll report c ns e w).held = heldBy ns w.held := by
  induction ns generalizing w with
  | nil => rfl
  | cons n ns ih =>
    rw [handAll, List.foldl_cons, ← handAll, ih, heldBy, heldBy, List.foldl_cons]
    cases n with
    | event ev => rw [handNotice, handOn_held]
    | faulted reason => rw [handNotice, noteFault_held]

theorem heldAfter_press {ev : Event} (hp : ev.press = true) (held : ChanSet) (d : Chan) :
    hasChan (heldAfter ev held) d = (hasChan held d || decide (ev.chan = d)) := by
  simp [heldAfter, hp, hasChan_or, hasChan_chanBit]

theorem heldAfter_release {ev : Event} (hp : ev.press = false) (held : ChanSet) (d : Chan) :
    hasChan (heldAfter ev held) d = (hasChan held d && !decide (ev.chan = d)) := by
  simp [heldAfter, hp, hasChan_sdiff, hasChan_chanBit]

/-! ## A turn and the held set -/

/-- A turn of channel `c` from live record `l`: its notices put `c` in the held set, or take it out, as its new state
says, and leave the other channels where they are. -/
def TurnFits (c : Chan) (l : ChanLive) (r : ChanLive × List Notice) : Prop :=
  ∀ (held : ChanSet) (d : Chan), hasChan held c = l.state.isDown →
    hasChan (heldBy r.2 held) d = if c = d then r.1.state.isDown else hasChan held d

theorem turnFits_same {c : Chan} {l l' : ChanLive} (h : l'.state.isDown = l.state.isDown) : TurnFits c l (l', []) := by
  intro held d hc
  by_cases hd : c = d
  · subst hd; exact (if_pos rfl).symm ▸ hc.trans h.symm
  · exact (if_neg hd).symm ▸ rfl

theorem turnFits_press {c : Chan} {l l' : ChanLive} {ev : Event} (hp : ev.press = true) (hc : ev.chan = c)
    (h : l'.state.isDown = true) : TurnFits c l (l', [.event ev]) := by
  intro held d _
  simp only [heldBy, List.foldl_cons, List.foldl_nil, heldAfter_press hp, hc, h]
  by_cases hd : c = d <;> simp [hd]

theorem turnFits_release {c : Chan} {l l' : ChanLive} {ev : Event} {ns : List Notice} (hp : ev.press = false)
    (hc : ev.chan = c) (h : l'.state.isDown = false) (hn : ∀ held, heldBy ns held = held) :
    TurnFits c l (l', .event ev :: ns) := by
  intro held d _
  have : heldBy (.event ev :: ns) held = heldBy ns (heldAfter ev held) := rfl
  rw [this, hn, heldAfter_release hp, hc, h]
  by_cases hd : c = d <;> simp [hd]

/-- R25: entry to FAULT, with or without a release. -/
theorem faultEntry_fits (c : Chan) (reason : FaultReason) (now : Time) (l : ChanLive) :
    TurnFits c l (faultEntry c reason now l) := by
  unfold faultEntry
  by_cases hd : l.state.isDown = true
  · rw [if_pos hd]
    exact turnFits_release (by rfl) rfl rfl fun _ => rfl
  · rw [if_neg hd]
    intro held d hc
    by_cases he : c = d
    · subst he; exact (if_pos rfl).symm ▸ hc.trans (Bool.eq_false_of_not_eq_true hd)
    · exact (if_neg he).symm ▸ rfl

theorem entered_notDown {st : ChanState} (h : st ∈ [ChanState.settling, .suspended, .off]) : st.isDown = false := by
  revert st; decide

theorem leaveTo_fits {target : ChanState} (ht : target.isDown = false) (cause : Cause) (c : Chan) (now : Time)
    (l : ChanLive) : TurnFits c l (leaveTo target cause c now l) := by
  unfold leaveTo
  by_cases hd : l.state.isDown = true
  · rw [if_pos hd]
    exact turnFits_release (by rfl) rfl ht fun _ => rfl
  · rw [if_neg hd]
    exact turnFits_same (ht.trans (Bool.eq_false_of_not_eq_true hd).symm)

theorem trackStep_fits (cfg : ChanCfg) (c : Chan) (now : Time) (l : ChanLive) :
    TurnFits c l (trackStep cfg c now l) := by
  have hs : (baselineStep cfg l).state = l.state := by
    unfold baselineStep
    split
    · rfl
    · split
      · rfl
      · split <;> rfl
  unfold trackStep
  dsimp only
  split
  · have := faultEntry_fits c .drift now (baselineStep cfg l)
    unfold TurnFits at this ⊢
    rwa [hs] at this
  · exact turnFits_same (by rw [hs])

/-- R18 to R23: a press is confirmed on the way to PRESSED, a release on the way to IDLE. -/
theorem thresholdStep_fits (cfg : ChanCfg) (c : Chan) (t now : Time) (l : ChanLive) :
    TurnFits c l (thresholdStep cfg c t now l) := by
  have press : TurnFits c l (confirmPress c t l) := turnFits_press (by rfl) rfl rfl
  have release : TurnFits c l (confirmRelease c t l) := turnFits_release (by rfl) rfl rfl fun _ => rfl
  unfold thresholdStep
  dsimp only
  split
  · next hs =>
    split
    · split
      · exact press
      · exact turnFits_same (by rw [hs]; rfl)
    · exact trackStep_fits cfg c now l
  · next hs =>
    split
    · split
      · exact press
      · exact turnFits_same rfl
    · exact turnFits_same (by rw [hs]; rfl)
  · next hs =>
    split
    · split
      · exact release
      · exact turnFits_same (by rw [hs]; rfl)
    · exact turnFits_same rfl
  · next hs =>
    split
    · split
      · exact release
      · exact turnFits_same rfl
    · exact turnFits_same (by rw [hs]; rfl)
  all_goals exact turnFits_same rfl

theorem chanResult_fits (cfg : ChanCfg) (c : Chan) (raw : Fin 4096) (t now : Time) (l : ChanLive) :
    TurnFits c l (chanResult cfg c raw.val t now l) := by
  unfold chanResult
  rw [countSaturation_takeRaw]
  split
  · dsimp only
    split
    · exact faultEntry_fits c _ now (l.counted raw)
    · split
      · next hs =>
        refine turnFits_same ?_
        have hl : l.state = .settling := hs
        rw [hl]
        unfold settleStep
        dsimp only
        split
        · exact congrArg ChanState.isDown hs
        · rfl
      · split
        · exact turnFits_release (by rfl) rfl rfl fun _ => rfl
        · exact thresholdStep_fits cfg c t now (l.counted raw)
  · exact turnFits_same rfl

theorem ChanTurn.fits {s : State} {c : Chan} {r : ChanLive × List Notice} (ht : ChanTurn s c r) :
    TurnFits c s.chanLive[c] r := by
  cases ht with
  | result raw t => exact chanResult_fits _ c raw t _ _
  | leaves target cause ht =>
    exact leaveTo_fits (entered_notDown ht) cause c _ _

/-- R36: of a channel at the end of a load. -/
theorem liveFromRecord_notDown (atStart : Bool) (c : ChanCfg) : (liveFromRecord atStart c).state.isDown = false := by
  unfold liveFromRecord ChanLive.zero
  dsimp only
  split
  · rfl
  · split <;> rfl

theorem applyImage_heldOk (i : Image) (s : State) : (s.applyImage i).HeldOk := by
  intro c
  simp only [State.applyImage, getElem_ofFn_fin, liveFromRecord_notDown]
  simp [hasChan]

/-- Settles O6: each turn of a channel changes the held set as its new state says; nothing else changes either. -/
theorem everyStepKeepsTheHeldSet : Obligations.EveryStepKeepsTheHeldSet := by
  have chans : ChanClosed State.HeldOk := {
    plain := fun | _, _, .mk .., h => h
    push := fun _ _ h => h, pops := fun _ h => h, scanner := fun _ _ h => h, cfg := fun _ _ _ _ h => h
    turn := fun s c r ht h d => by
      have hd := ht.fits s.held d (h c)
      simp only [State.afterTurn, State.putRecog_chanLive, State.setLive_chanLive, getElem_set_fin,
        State.putRecog_held, handAll_held]
      refine hd.trans ?_
      split
      · rfl
      · exact h d
    lives := fun s live hl h c => by
      rcases hl c with e | ⟨hd, st, hst, e⟩
      · exact (h c).trans (by rw [e])
      · rw [e]
        refine (h c).trans (hd.trans ?_)
        rw [enterCleared_state]
        exact (entered_notDown hst).symm }
  have closed : StepClosed State.HeldOk State.HeldOk := {
    chans.scanClosed with
    weaken := fun _ h => h, posts := fun _ _ _ _ h => h, clears := fun _ h => h, pulseEnd := fun _ _ h => h
    outLevel := fun _ _ h => h, writeGlobals := fun _ _ _ h => h, writeOutput := fun _ _ _ h => h
    patterns := fun _ _ ht h => by cases ht <;> exact h, stores := fun _ _ ht h => by cases ht <;> exact h
    rise := fun _ _ _ _ h => h
    works := fun s f hf h => by
      have held : (f s.env s.recog).held = s.held := (heldFixed s.env s.held).trackWork hf rfl
      intro c
      rw [State.putRecog_held, held]
      exact h c
    restoreTake := fun s x _ _ c => by simp [restoreTake, hasChan, enterCleared, ChanState.isDown]
    restoreEnd := fun s x _ _ => by
      obtain ⟨_, _, _, e⟩ := restoreEnd_frame x s
      rw [e]; exact applyImage_heldOk _ s
    goDown := fun s _ _ _ _ c => by simp [State.goDown, hasChan, ChanLive.zero, ChanState.isDown]
    startUp := fun s cause low _ _ => by
      obtain ⟨_, _, _, _, e⟩ := s.startUp_frame cause low
      rw [e]; exact applyImage_heldOk _ s }
  exact fun s t => closed.step_keeps

end Sys2Proof.Machine
end

section
/-! PROOF. O9: the law of the outputs (06_outputs.md, sections 6.1 and 6.4). Between stage 2 of a release and the end of
its follows an output may still follow a set of which no channel is held; the law without that clause (`OutState.Fits`)
holds throughout, and R121 restores the clause. -/

namespace Sys2Proof.Machine

/-! ## One output and its record -/

/-- Section 6.1: an output is OFF exactly where its ENABLE is 0, and PULSING or FOLLOWING only in PATTERN mode. -/
def OutState.Fits (o : OutState) (c : OutCfg) : Prop :=
  (o = .off ↔ c.enable = false) ∧ ((∃ due, o = .pulsing due) ∨ (∃ set, o = .following set) → c.mode = .pattern)

/-- R121: a FOLLOWING output has a channel of its FOLLOW_SET held. -/
def OutState.Follows (o : OutState) (held : ChanSet) : Prop := ∀ set, o = .following set → overlaps set held = true

theorem suits_iff (o : OutState) (c : OutCfg) (held : ChanSet) : (o = .off ↔ c.enable = false) ∧ o.suits c held = true ↔
    o.Fits c ∧ o.Follows held := by
  cases o <;> simp [OutState.suits, OutState.Fits, OutState.Follows, and_assoc]

/-- LOW and HIGH fit any enabled output. -/
theorem fits_low {c : OutCfg} (h : c.enable = true) : OutState.Fits .low c := by simp [OutState.Fits, h]

theorem fits_high {c : OutCfg} (h : c.enable = true) : OutState.Fits .high c := by simp [OutState.Fits, h]

theorem OutState.Fits.enabled {o : OutState} {c : OutCfg} (h : o.Fits c) (ho : o ≠ .off) : c.enable = true := by
  cases hc : c.enable
  · exact absurd (h.1.2 hc) ho
  · rfl

theorem fits_fromRecord (c : OutCfg) (held : ChanSet) : (outFromRecord c).Fits c ∧ (outFromRecord c).Follows held := by
  unfold outFromRecord
  cases hc : c.enable
  · exact ⟨by simp [OutState.Fits, hc], nofun⟩
  · cases c.initialHigh
    · exact ⟨fits_low hc, nofun⟩
    · exact ⟨fits_high hc, nofun⟩

/-- R96, R116: an action that is not skipped finds an enabled output in PATTERN mode. -/
theorem actionSkipped_eq_false_iff (c : OutCfg) (o : OutState) (a : Action) (held : ChanSet) :
    actionSkipped c o a held = false ↔
      c.enable = true ∧ o ≠ .off ∧ c.mode = .pattern ∧ (a.op = .follow → followSetOf a held ≠ 0) := by
  cases hm : c.mode <;> simp [actionSkipped, hm, and_assoc]

theorem applyAction_fits {now : Time} {c : OutCfg} {o : OutState} {a : Action} {held : ChanSet}
    (hs : actionSkipped c o a held = false) (h : o.Fits c) : (applyAction now c o a held).Fits c := by
  obtain ⟨he, -, hm, -⟩ := (actionSkipped_eq_false_iff ..).1 hs
  have ofMode {x : OutState} (hx : x ≠ .off) : x.Fits c :=
    ⟨⟨fun e => absurd e hx, fun e => absurd (he.symm.trans e) nofun⟩, fun _ => hm⟩
  unfold applyAction startPulse
  split
  · exact fits_high he
  · exact fits_low he
  · split
    · exact fits_low he
    · exact fits_high he
  · split
    · exact h
    · split
      · exact fits_low he
      · exact ofMode nofun
  · exact ofMode nofun

/-- R120: a FOLLOW forms its set of channels that are held. -/
theorem applyAction_follows {now : Time} {c : OutCfg} {o : OutState} {a : Action} {held : ChanSet}
    (hs : actionSkipped c o a held = false) : (applyAction now c o a held).Follows held := by
  obtain ⟨-, -, -, hf⟩ := (actionSkipped_eq_false_iff ..).1 hs
  intro set
  unfold applyAction startPulse
  split
  · nofun
  · nofun
  · split <;> nofun
  · split
    · nofun
    · split <;> nofun
  · next hop =>
    rintro ⟨⟩
    have hne := hf hop
    unfold followSetOf at hne
    simpa [overlaps, followSetOf, BitVec.and_assoc] using hne

/-- R43: two sets overlap where they have a channel in common. -/
theorem overlaps_iff {a b : ChanSet} : overlaps a b = true ↔ ∃ c : Chan, hasChan a c = true ∧ hasChan b c = true := by
  simp only [overlaps, bne_iff_ne, ne_eq, hasChan]
  constructor
  · intro h
    by_contra hn
    refine h (BitVec.eq_of_getLsbD_eq fun i hi => ?_)
    have := not_exists.1 hn ⟨i, hi⟩
    simpa using this
  · rintro ⟨c, ha, hb⟩ h
    have := congrArg (fun x : ChanSet => x.getLsbD c.val) h
    simp only [BitVec.getLsbD_and, ha, hb] at this
    simp at this

/-- R62: a press takes nothing from the held set. -/
theorem overlaps_or_left {set held bit : ChanSet} (h : overlaps set held = true) :
    overlaps set (held ||| bit) = true := by
  obtain ⟨c, hs, hc⟩ := overlaps_iff.1 h
  exact overlaps_iff.2 ⟨c, hs, by rw [hasChan_or, hc, Bool.true_or]⟩

/-! ## All outputs -/

/-- The law without R121's clause. -/
def OutsFit (cfg : Vector OutCfg 6) (_ : ChanSet) (outs : Vector OutState 6) : Prop :=
  ∀ o : OutIdx, outs[o].Fits cfg[o]

/-- The law of the outputs. -/
def OutsLaw (cfg : Vector OutCfg 6) (held : ChanSet) (outs : Vector OutState 6) : Prop :=
  ∀ o : OutIdx, outs[o].Fits cfg[o] ∧ outs[o].Follows held

theorem OutsLaw.fit {cfg : Vector OutCfg 6} {held held' : ChanSet} {outs : Vector OutState 6}
    (h : OutsLaw cfg held outs) : OutsFit cfg held' outs := fun o => (h o).1

/-- A property of every output and its record that an action keeps at its own output. -/
theorem actClosed_of_each {e : Env} {S : ChanSet → OutIdx → OutState → Prop}
    (h : ∀ (a : Action) (held : ChanSet) (o : OutState), actionSkipped e.outCfg[a.out] o a held = false →
      S held a.out o → S held a.out (applyAction e.now e.outCfg[a.out] o a held)) :
    ActClosed e fun held outs => ∀ o : OutIdx, S held o outs[o] := by
  intro a w hw o
  unfold Recog.act
  split
  · exact hw o
  · next hs =>
    simp only [Recog.setOut, getElem_set_fin]
    split
    · next ho =>
      subst ho
      exact h a w.held _ (Bool.eq_false_of_not_eq_true hs) (hw a.out)
    · exact hw o

theorem outsFit_closed (e : Env) : ActClosed e (OutsFit e.outCfg) :=
  actClosed_of_each (S := fun _ o x => x.Fits e.outCfg[o]) fun _ _ _ hs h => applyAction_fits hs h

theorem outsLaw_closed (e : Env) : ActClosed e (OutsLaw e.outCfg) :=
  actClosed_of_each (S := fun held o x => x.Fits e.outCfg[o] ∧ x.Follows held) fun _ _ _ hs h =>
    ⟨applyAction_fits hs h.1, applyAction_follows hs⟩

/-- R121: the ends of follows restore the law. -/
theorem endFollows_law {cfg : Vector OutCfg 6} {w : Recog} (h : w.Meets (OutsFit cfg)) :
    w.endFollows.Meets (OutsLaw cfg) := by
  intro o
  have hf := h o
  have low (hne : w.outs[o] ≠ .off) : OutState.Fits .low cfg[o] ∧ OutState.Follows .low w.held :=
    ⟨fits_low (hf.enabled hne), nofun⟩
  simp only [Recog.endFollows, getElem_ofFn_fin]
  cases ho : w.outs[o] with
  | following set =>
    simp only [endFollow]
    split
    · next hov => rw [ho] at hf; exact ⟨hf, fun _ e => by cases e; exact hov⟩
    · exact low (by rw [ho]; nofun)
  | off | low | high | pulsing due => rw [ho] at hf; exact ⟨hf, nofun⟩

/-- R27: an input event, once all blocks have handled it, leaves the law of the outputs. -/
theorem handOn_outsLaw {report : Bool} {ev : Event} {e : Env} {w : Recog} (h : w.Meets (OutsLaw e.outCfg)) :
    (handOn report ev e w).Meets (OutsLaw e.outCfg) := by
  have h0 : (w.offerIf report (eventRecord ev)).Meets (OutsLaw e.outCfg) := ActClosed.offerIf h
  unfold handOn
  dsimp only
  cases hp : ev.press
  · have loose : (matchEvent e ev (w.offerIf report (eventRecord ev))).Meets (OutsFit e.outCfg) := by
      refine (outsFit_closed e).workClosed.matchEvent fun o => ?_
      rw [stage2_outs]
      exact (outsFit_closed e).workClosed.stage1
          (w := { w.offerIf report (eventRecord ev) with ended := 0, claimed := 0 }) h0.fit o
    have strict := endFollows_law loose
    split <;> exact strict
  · have strict : (matchEvent e ev (w.offerIf report (eventRecord ev))).Meets (OutsLaw e.outCfg) := by
      refine (outsLaw_closed e).workClosed.matchEvent fun o => ?_
      have h1 := (outsLaw_closed e).workClosed.stage1 (ev := ev)
        (w := { w.offerIf report (eventRecord ev) with ended := 0, claimed := 0 }) h0 o
      rw [stage2_outs, stage2_held, heldAfter, if_pos hp]
      exact ⟨h1.1, fun set hs => overlaps_or_left (h1.2 set hs)⟩
    split <;> exact strict

theorem handAll_outsLaw {report : Bool} {c : Chan} {ns : List Notice} {e : Env} {w : Recog}
    (h : w.Meets (OutsLaw e.outCfg)) : (handAll report c ns e w).Meets (OutsLaw e.outCfg) := by
  refine foldl_keeps (P := fun v : Recog => v.Meets (OutsLaw e.outCfg)) _ (fun v n hv => ?_) _ _ h
  cases n with
  | event ev => exact handOn_outsLaw hv
  | faulted reason => exact ActClosed.offerIf hv

theorem State.outputsOk_iff (s : State) :
    s.OutputsOk ↔ (s.mode = .running → OutsLaw s.outCfg s.held s.outState) :=
  forall_congr' fun _ => forall_congr' fun _ => suits_iff ..

theorem applyImage_outsLaw (i : Image) (s : State) :
    OutsLaw (s.applyImage i).outCfg (s.applyImage i).held (s.applyImage i).outState := by
  intro o
  simp only [State.applyImage, getElem_ofFn_fin]
  exact fits_fromRecord ..

/-- R119: a pulse end. -/
theorem endPulse_law {c : OutCfg} {o : OutState} {held : ChanSet} (now : Time) (h : o.Fits c ∧ o.Follows held) :
    (endPulse now o).Fits c ∧ (endPulse now o).Follows held := by
  unfold endPulse
  split
  · split
    · exact ⟨fits_low (h.1.enabled nofun), nofun⟩
    · exact h
  all_goals exact h

/-- R123: a host level. -/
theorem applyLevel_law {c : OutCfg} {o : OutState} {held : ChanSet} (level : BitVec 6) (i : OutIdx)
    (h : o.Fits c ∧ o.Follows held) : (applyLevel level i c o).Fits c ∧ (applyLevel level i c o).Follows held := by
  unfold applyLevel
  split
  · next hc =>
    have he : c.enable = true := by simp only [Bool.and_eq_true] at hc; exact hc.1.1
    split
    · exact ⟨fits_high he, nofun⟩
    · exact ⟨fits_low he, nofun⟩
  · exact h

/-- R126: an output at the take of a restore, when no channel is held any more. -/
theorem outAtRestore_law {c : OutCfg} {o : OutState} (held : ChanSet) (h : o.Fits c) :
    (outAtRestore o).Fits c ∧ (outAtRestore o).Follows held := by
  cases o with
  | pulsing | following => exact ⟨fits_high (h.enabled nofun), nofun⟩
  | off | low | high => exact ⟨h, nofun⟩

/-- Settles O9: what the matcher does keeps the law but for the follows that a release ends, and R121 ends them. -/
theorem everyStepKeepsTheOutputLaw : Obligations.EveryStepKeepsTheOutputLaw := by
  have chans : ChanClosed fun s => s.mode = .running → OutsLaw s.outCfg s.held s.outState := {
    plain := fun | _, _, .mk .., h => h
    push := fun _ _ h => h, pops := fun _ h => h, scanner := fun _ _ h => h, lives := fun _ _ _ h => h
    cfg := fun _ _ _ _ h => h
    turn := fun s c r _ h hm => handAll_outsLaw (e := s.env) (w := s.recog) (h hm) }
  have closed : StepClosed (fun s => s.mode = .running → OutsLaw s.outCfg s.held s.outState)
      fun s => s.mode = .running → OutsLaw s.outCfg s.held s.outState := {
    chans.scanClosed with
    weaken := fun _ h => h, posts := fun _ _ _ _ h => h, clears := fun _ h => h
    writeGlobals := fun _ _ _ h => h, patterns := fun _ _ ht h => by cases ht <;> exact h
    stores := fun _ _ ht h => by cases ht <;> exact h
    works := fun s f hf h hm => (outsLaw_closed s.env).trackWork (w := s.recog) hf (h hm)
    pulseEnd := fun s i h hm o => by
      simp only [getElem_set_fin]
      split
      · next ho => exact ho ▸ endPulse_law s.time (h hm i)
      · exact h hm o
    outLevel := fun s level h hm o => by
      simp only [getElem_ofFn_fin]
      exact applyLevel_law level o (h hm o)
    writeOutput := fun s i c h hm o => by
      simp only [writeOutput, getElem_set_fin]
      split
      · exact fits_fromRecord ..
      · exact h hm o
    restoreTake := fun s x _ h hm o => by
      simp only [restoreTake, getElem_ofFn_fin]
      exact outAtRestore_law _ (h hm o).1
    restoreEnd := fun s x _ _ => by
      obtain ⟨_, _, _, e⟩ := restoreEnd_frame x s
      rw [e]; exact fun _ => applyImage_outsLaw _ s
    goDown := fun s _ m hm _ e => absurd e hm
    rise := fun s m _ hm _ e => absurd e hm
    startUp := fun s cause low _ _ => by
      obtain ⟨_, _, _, _, e⟩ := s.startUp_frame cause low
      rw [e]; exact fun _ => applyImage_outsLaw _ s }
  exact fun s t h ht => t.outputsOk_iff.2 (closed.step_keeps (s.outputsOk_iff.1 h) ht)

end Sys2Proof.Machine
end

section
/-! PROOF. O10: patterns, tracker slots and the build context bound to one another
(03_patterns_and_the_step_pool.md, sections 3.1 and 3.5; 04_trackers_and_step_matching.md, section 4.2). The law is a
property of the changeable state, given the build context, that endings, completions, starts and unlocks keep. -/

namespace Sys2Proof.Machine

/-! ## Work on the changeable state -/

/-- A property of the changeable state that reads nothing of the offers, outputs and flags. -/
def OfTrackers (P : Recog → Prop) : Prop :=
  ∀ (w : Recog) (offers : List Record) (outs : Vector OutState 6) (flags : BitVec 6), P w →
    P { w with offers := offers, outs := outs, flags := flags }

/-- R27: the notices of a turn, each handed on whole. -/
theorem handAll_keeps {e : Env} {P : Recog → Prop} (hm : ∀ ev w, P w → P (matchEvent e ev w)) (hp : OfTrackers P)
    (report : Bool) (d : Chan) (ns : List Notice) (w : Recog) (h : P w) : P (handAll report d ns e w) := by
  have offer {v : Recog} (r : Record) (hv : P v) : P (v.offerIf report r) := by
    cases report
    · exact hv
    · exact hp v _ v.outs v.flags hv
  have raise {v : Recog} (f : EventFlag) (hv : P v) : P (v.raise f) := hp v v.offers v.outs _ hv
  refine foldl_keeps _ (fun v n hv => ?_) ns w h
  cases n with
  | faulted reason => exact raise _ (offer _ hv)
  | event ev =>
    have h1 := hm ev _ (offer (eventRecord ev) hv)
    simp only [handNotice, handOn]
    have h2 : P (if ev.press then matchEvent e ev (v.offerIf report (eventRecord ev))
        else (matchEvent e ev (v.offerIf report (eventRecord ev))).endFollows) := by
      split
      · exact h1
      · exact hp _ _ _ _ h1
    split
    · exact raise _ h2
    · exact h2

theorem EventClosed.handAll {e : Env} {P : Recog → Prop} (c : EventClosed e P) (hp : OfTrackers P) (report : Bool)
    (d : Chan) (ns : List Notice) (w : Recog) (h : P w) : P (handAll report d ns e w) :=
  handAll_keeps c.matchEvent hp report d ns w h

/-! ## The law -/

/-- R39, R47, R64 of the changeable state, with the build context `build`. -/
structure Recog.Bound (build : Option PatIdx) (w : Recog) : Prop where
  active : ∀ p : PatIdx, w.pstate[p] = .active ↔ ∃ t : SlotIdx, w.trackers[t].pattern = some p
  once : ∀ t u : SlotIdx, w.trackers[t].pattern ≠ none → w.trackers[t].pattern = w.trackers[u].pattern → t = u
  building : ∀ p : PatIdx, w.pstate[p] = .building ↔ build = some p

theorem State.bindingsOk_iff (s : State) : s.BindingsOk ↔ s.recog.Bound s.build :=
  ⟨fun ⟨a, b, c⟩ => ⟨a, b, c⟩, fun ⟨a, b, c⟩ => ⟨a, b, c⟩⟩

theorem Recog.Bound.put {w : Recog} (s : State) (h : w.Bound s.build) : (s.putRecog w).BindingsOk :=
  ⟨h.active, h.once, h.building⟩

namespace Recog.Bound

variable {build : Option PatIdx} {w : Recog}

/-- The law reads pattern states and the patterns of the slots alone. -/
theorem of_pattern {v : Recog} (h : w.Bound build) (hs : v.pstate = w.pstate)
    (ht : ∀ t : SlotIdx, v.trackers[t].pattern = w.trackers[t].pattern) : v.Bound build where
  active p := by simp only [hs, ht]; exact h.active p
  once t u := by simp only [ht]; exact h.once t u
  building p := by rw [hs]; exact h.building p

/-- The slot of a pattern that is bound. -/
theorem unique (h : w.Bound build) {t u : SlotIdx} {p : PatIdx} (ht : w.trackers[t].pattern = some p)
    (hu : w.trackers[u].pattern = some p) : t = u :=
  h.once t u (by rw [ht]; nofun) (ht.trans hu.symm)

/-- A slot is freed and its pattern takes another state. -/
theorem freed (h : w.Bound build) {t : SlotIdx} {p : PatIdx} {st : PatState} (hp : w.trackers[t].pattern = some p)
    (ha : st ≠ .active) (hb : st ≠ .building) : ((w.setTracker t .free).setPat p st).Bound build where
  active q := by
    simp only [Recog.setPat_pstate, Recog.setTracker_pstate, Recog.setPat_trackers, Recog.setTracker_trackers,
      getElem_set_fin]
    split
    · next e =>
      subst e
      refine iff_of_false ha ?_
      rintro ⟨u, hu⟩
      split at hu
      · cases hu
      · next hne => exact hne (h.unique hp hu)
    · next hne =>
      refine (h.active q).trans ⟨fun ⟨u, hu⟩ => ⟨u, ?_⟩, fun ⟨u, hu⟩ => ⟨u, ?_⟩⟩
      · have other : t ≠ u := fun e => hne (Option.some.inj (hp.symm.trans (e ▸ hu)))
        rw [if_neg other, hu]
      · split at hu
        · cases hu
        · exact hu
  once u v := by
    simp only [Recog.setPat_trackers, Recog.setTracker_trackers, getElem_set_fin]
    split
    · exact fun hn _ => absurd rfl hn
    · split
      · exact fun hn he => absurd he hn
      · exact h.once u v
  building q := by
    simp only [Recog.setPat_pstate, Recog.setTracker_pstate, getElem_set_fin]
    split
    · next e =>
      subst e
      have := (h.active p).2 ⟨t, hp⟩
      exact iff_of_false hb fun hq => absurd ((h.building p).2 hq) (by rw [this]; nofun)
    · exact h.building q

/-- A FREE slot is bound to a pattern that is neither ACTIVE nor BUILDING. -/
theorem started (h : w.Bound build) {t : SlotIdx} {p : PatIdx} {x : Waiting} (ht : w.trackers[t] = .free)
    (ha : w.pstate[p] ≠ .active) (hb : w.pstate[p] ≠ .building) (hx : x.pattern = p) :
    ((w.setTracker t (.waiting x)).setPat p .active).Bound build := by
  have unbound : ∀ u : SlotIdx, w.trackers[u].pattern ≠ some p := fun u hu => ha ((h.active p).2 ⟨u, hu⟩)
  subst hx
  constructor
  case active =>
    intro q
    simp only [Recog.setPat_pstate, Recog.setTracker_pstate, Recog.setPat_trackers, Recog.setTracker_trackers,
      getElem_set_fin]
    split
    · next e => exact iff_of_true rfl ⟨t, by rw [if_pos rfl]; exact congrArg some e⟩
    · next hne =>
      refine (h.active q).trans ⟨fun ⟨u, hu⟩ => ⟨u, ?_⟩, fun ⟨u, hu⟩ => ⟨u, ?_⟩⟩
      · rw [if_neg (fun e => by rw [← e, ht] at hu; cases hu), hu]
      · split at hu
        · exact absurd (Option.some.inj hu) hne
        · exact hu
  case once =>
    intro u v
    simp only [Recog.setPat_trackers, Recog.setTracker_trackers, getElem_set_fin]
    split
    · split
      · next e e' => exact fun _ _ => e.symm.trans e'
      · exact fun _ he => absurd he.symm (unbound v)
    · split
      · exact fun _ he => absurd he (unbound u)
      · exact h.once u v
  case building =>
    intro q
    simp only [Recog.setPat_pstate, Recog.setTracker_pstate, getElem_set_fin]
    split
    · next e => exact iff_of_false nofun fun hq => hb ((h.building _).2 (e ▸ hq))
    · exact h.building q

/-- Of a pattern that is ACTIVE, the slot can be found. -/
theorem slotOf_isSome (h : w.Bound build) {p : PatIdx} (hp : w.pstate[p] = .active) :
    ∃ t, slotOf w.trackers p = some t ∧ w.trackers[t].pattern = some p := by
  obtain ⟨u, hu⟩ := (h.active p).1 hp
  cases hs : slotOf w.trackers p with
  | none =>
    have := List.find?_eq_none.1 hs u (List.mem_finRange u)
    exact absurd (beq_iff_eq.2 hu) this
  | some t => exact ⟨t, rfl, eq_of_beq (List.find?_some hs :)⟩

end Recog.Bound

theorem rearmState_ne (d : PatDef) (held : ChanSet) : rearmState d held ≠ .active ∧ rearmState d held ≠ .building := by
  unfold rearmState
  split
  · exact ⟨nofun, nofun⟩
  · exact ⟨nofun, nofun⟩
  · split <;> exact ⟨nofun, nofun⟩

theorem unblock_pattern (gone : PatSet) (t : Tracker) : (unblock gone t).pattern = t.pattern := by cases t <;> rfl

/-- What an ending does to pattern states and slots. -/
theorem endSlot_bound {e : Env} {t : SlotIdx} {reason : Reason} {time : Time} {st : PatState} {w : Recog} {p : PatIdx}
    (hp : w.trackers[t].pattern = some p) :
    (endSlot e t reason time st w).pstate = w.pstate.set p st
      ∧ (endSlot e t reason time st w).trackers = w.trackers.set t .free := by
  unfold endSlot
  rw [hp]
  dsimp only
  cases (e.pat p).header.reportAbort <;> exact ⟨rfl, rfl⟩

/-- What a completion's own steps do to pattern states and slots. -/
theorem completeSlot_bound {e : Env} {t : SlotIdx} {p : PatIdx} {te : Time} {deferred : Bool} {time : Time}
    {w : Recog} : ∃ held, (completeSlot e t p te deferred time w).pstate = w.pstate.set p (rearmState (e.pat p) held)
      ∧ (completeSlot e t p te deferred time w).trackers = w.trackers.set t .free := by
  have acts (a : Option Action) (v : Recog) :
      (actOpt e a v).pstate = v.pstate ∧ (actOpt e a v).trackers = v.trackers := by
    cases a with
    | none => exact ⟨rfl, rfl⟩
    | some a =>
      simp only [actOpt, Recog.act]
      split <;> exact ⟨rfl, rfl⟩
  have offers (b : Bool) (r : Record) : (w.offerIf b r).pstate = w.pstate ∧ (w.offerIf b r).trackers = w.trackers := by
    cases b <;> exact ⟨rfl, rfl⟩
  refine ⟨(completeSlot e t p te deferred time w).held, ?_⟩
  simp only [completeSlot, Recog.setPat, Recog.setTracker, (acts _ _).1, (acts _ _).2, (offers _ _).1, (offers _ _).2,
      and_self]

/-- A pattern's state, where it is neither ACTIVE nor BUILDING, stays so while trackers end and complete. -/
theorem endTracker_resting {e : Env} {t : SlotIdx} {reason : Reason} {time : Time} {w : Recog} {p : PatIdx}
    (h : w.pstate[p] ≠ .active ∧ w.pstate[p] ≠ .building) :
    (endTracker e t reason time .ready w).pstate[p] ≠ .active
      ∧ (endTracker e t reason time .ready w).pstate[p] ≠ .building := by
  have set {v : Recog} {q : PatIdx} {st : PatState} (hs : st ≠ .active ∧ st ≠ .building)
      (hv : v.pstate[p] ≠ .active ∧ v.pstate[p] ≠ .building) :
      (v.pstate.set q st)[p] ≠ .active ∧ (v.pstate.set q st)[p] ≠ .building := by
    simp only [getElem_set_fin]
    split
    · exact hs
    · exact hv
  have closed : EndClosed e fun v => v.pstate[p] ≠ .active ∧ v.pstate[p] ≠ .building := {
    unblocks := fun _ _ h => h, claims := fun _ _ h => h
    ends := fun u r time st v hs hv => by
      cases hu : v.trackers[u].pattern with
      | none => rw [endSlot_free e u r time st v hu]; exact hv
      | some q =>
        rw [(endSlot_bound hu).1]
        exact set (by rcases hs with rfl | rfl <;> exact ⟨nofun, nofun⟩) hv
    completes := fun u q te deferred time v _ hv => by
      obtain ⟨held, hs, -⟩ := completeSlot_bound (e := e) (t := u) (p := q) (te := te) (deferred := deferred)
        (time := time) (w := v)
      rw [hs]
      exact set (rearmState_ne _ _) hv }
  exact closed.endTracker _ _ _ _ _ (.inl rfl) h

/-- R39, R47, R64: the law is kept by events, due times and cancels. -/
theorem boundClosed (e : Env) (build : Option PatIdx) : EventClosed e (Recog.Bound build) where
  ends t reason time st w hs h := by
    cases hp : w.trackers[t].pattern with
    | none => rwa [endSlot_free e t reason time st w hp]
    | some p =>
      obtain ⟨h1, h2⟩ := endSlot_bound (e := e) (reason := reason) (time := time) (st := st) hp
      refine (h.freed (st := st) hp ?_ ?_).of_pattern h1 fun u => by rw [h2]; rfl
      all_goals rcases hs with rfl | rfl <;> nofun
  completes t p te deferred time w hp h := by
    obtain ⟨held, h1, h2⟩ := completeSlot_bound (e := e) (t := t) (p := p) (te := te) (deferred := deferred)
      (time := time) (w := w)
    exact (h.freed hp (rearmState_ne ..).1 (rearmState_ne ..).2).of_pattern h1 fun u => by rw [h2]; rfl
  unblocks gone w h := h.of_pattern rfl fun t => by simp only [getElem_ofFn_fin, unblock_pattern]
  claims _ w h := h.of_pattern rfl fun _ => rfl
  moves t x y w hx hm h := h.of_pattern rfl fun u => by
    simp only [Recog.setTracker_trackers, getElem_set_fin]
    split
    · next e => rw [← e, hx]; exact congrArg some hm.pattern
    · rfl
  pends t x te w hx _ h := h.of_pattern rfl fun u => by
    simp only [Recog.setTracker_trackers, getElem_set_fin]
    split
    · next e => rw [← e, hx]; rfl
    · rfl
  starts t p time w w0 ht h _ hr hw := by
    have resting : w.pstate[p] ≠ .active ∧ w.pstate[p] ≠ .building := by
      have h0 : w0.pstate[p] ≠ .active ∧ w0.pstate[p] ≠ .building := by rw [hr]; exact ⟨nofun, nofun⟩
      rcases hw with rfl | ⟨v, rfl⟩
      · exact h0
      · exact endTracker_resting h0
    exact h.started ht resting.1 resting.2 rfl
  refuses p time w h := h.of_pattern
    (by unfold refuseStart; cases (e.pat p).header.reportAbort <;> rfl) fun _ => by
      unfold refuseStart; cases (e.pat p).header.reportAbort <;> rfl
  held ev w h := by
    unfold stage2
    split
    · exact h.of_pattern rfl fun _ => rfl
    · have keeps (p : PatIdx) (held : ChanSet) (st : PatState) (hne : st ≠ .locked) (hr : st ≠ .ready) :
          unlock (e.pat p).univ held w.pstate[p] = st ↔ w.pstate[p] = st := by
        unfold unlock
        split
        · next hl =>
          simp only [Bool.and_eq_true, decide_eq_true_eq] at hl
          rw [hl.1]
          exact ⟨fun e => absurd e.symm hr, fun e => absurd e.symm hne⟩
        · rfl
      refine ⟨fun p => ?_, h.once, fun p => ?_⟩
      · simp only [getElem_ofFn_fin, keeps p _ .active nofun nofun]
        exact h.active p
      · simp only [getElem_ofFn_fin, keeps p _ .building nofun nofun]
        exact h.building p
  begins w h := h.of_pattern rfl fun _ => rfl

/-- R83, R108, R56: the work of the matcher outside any event of a channel, for a property that goes with the
bindings. -/
theorem WorkClosed.trackWork {s : State} {P : Recog → Prop} (c : WorkClosed s.env P)
    (hfl : ∀ w, P w → P (flushWork s.env w)) (hb : s.recog.Bound s.build) {f : Env → Recog → Recog}
    (hf : TrackWork s f) (h : P s.recog) : P (f s.env s.recog) := by
  cases hf with
  | idles => exact h
  | takesDue => exact c.nextDueTaken h
  | flushes => exact hfl s.recog h
  | disables p hst =>
    obtain ⟨t, ht, -⟩ := hb.slotOf_isSome (p := p) hst
    simp only [disableActive, ht]
    exact c.ends _ _ _ _ _ (.inr rfl) h

theorem EventClosed.trackWork {s : State} {P : Recog → Prop} (c : EventClosed s.env P)
    (hb : s.recog.Bound s.build) {f : Env → Recog → Recog} (hf : TrackWork s f) (h : P s.recog) :
    P (f s.env s.recog) := c.workClosed.trackWork c.flushWork hb hf h

theorem bound_ofTrackers (build : Option PatIdx) : OfTrackers (Recog.Bound build) :=
  fun _ _ _ _ h => h.of_pattern rfl fun _ => rfl

/-! ## Changes of the pattern table -/

/-- A pattern that is not ACTIVE takes another such state, with the build context to go with it. -/
theorem Recog.Bound.moved {build build' : Option PatIdx} {w : Recog} (h : w.Bound build) {p : PatIdx} {st : PatState}
    (ha : w.pstate[p] ≠ .active) (hs : st ≠ .active) (hb : st = .building ↔ build' = some p)
    (hq : ∀ q, p ≠ q → (build = some q ↔ build' = some q)) : (w.setPat p st).Bound build' where
  active q := by
    simp only [Recog.setPat_pstate, Recog.setPat_trackers, getElem_set_fin]
    split
    · next e => exact iff_of_false hs fun hu => ha ((h.active p).2 (e ▸ hu))
    · exact h.active q
  once := h.once
  building q := by
    simp only [Recog.setPat_pstate, getElem_set_fin]
    split
    · next e => exact e ▸ hb
    · next hne => exact (h.building q).trans (hq q hne)

/-- With no tracker in use and no pattern ACTIVE or BUILDING, nothing is bound. -/
theorem bindingsOk_of_free {s : State} (ht : ∀ t : SlotIdx, s.trackers[t] = .free)
    (hp : ∀ p : PatIdx, s.patState[p] ≠ .active ∧ s.patState[p] ≠ .building) (hb : s.build = none) : s.BindingsOk :=
  ⟨fun p => iff_of_false (hp p).1 fun ⟨t, h⟩ => (by rw [ht t] at h; cases h),
    fun t _ h => absurd (by rw [ht t]; rfl) h,
    fun p => iff_of_false (hp p).2 (by rw [hb]; nofun)⟩

theorem PatChange.bindingsOk {s t : State} (ht : PatChange s t) (h : s.BindingsOk) : t.BindingsOk := by
  have hw := s.bindingsOk_iff.1 h
  rw [State.bindingsOk_iff]
  have build_eq {p : PatIdx} (hb : s.build = some p) : s.recog.pstate[p] = .building := (hw.building p).2 hb
  cases ht with
  | begins p header hb hst hh =>
    have none : s.build = none := hb.resolve_right fun e => by
      have := build_eq e
      rw [State.recog_pstate, hst] at this
      cases this
    refine Recog.Bound.moved (w := s.recog) hw (p := p) (st := .building) ?_ nofun (by simp) fun q hq => ?_
    · rw [State.recog_pstate, hst]; nofun
    · simp [none, hq]
  | appends p x hb hl hf hx => exact hw
  | ends p hb hc =>
    refine Recog.Bound.moved (w := s.recog) hw (p := p) ?_ ?_ ?_ fun q hq => ?_
    · rw [build_eq hb]; nofun
    · split <;> nofun
    · split <;> simp
    · simp [hb, hq]
  | abandons p hb =>
    refine Recog.Bound.moved (w := s.recog) hw (p := p) (st := .empty) ?_ nofun (by simp) fun q hq => ?_
    · rw [build_eq hb]; nofun
    · simp [hb, hq]
  | revises p header hst hh hf hp => exact hw
  | deletes p hst =>
    have hne : s.build ≠ some p := fun e => by
      have := build_eq e
      rw [State.recog_pstate, hst] at this
      cases this
    exact Recog.Bound.moved (w := s.recog) hw (p := p) (st := .empty) (by rw [State.recog_pstate, hst]; nofun) nofun
      (iff_of_false nofun hne) fun q _ => Iff.rfl
  | moves p st hst ht =>
    have hne : s.build ≠ some p := fun e => by
      have := build_eq e
      rw [State.recog_pstate] at this
      rw [this] at hst
      revert hst; decide
    refine Recog.Bound.moved (w := s.recog) hw (p := p) (st := st) (fun e => ?_) (fun e => ?_)
      (iff_of_false (fun e => ?_) hne) fun q _ => Iff.rfl
    · rw [State.recog_pstate] at e
      rw [e] at hst
      revert hst; decide
    all_goals
      subst e
      revert ht; decide

theorem applyImage_bindingsOk (i : Image) (s : State) : (s.applyImage i).BindingsOk := by
  refine bindingsOk_of_free (fun t => by simp [State.applyImage]) (fun p => ?_) rfl
  simp only [State.applyImage, getElem_ofFn_fin, stateFromImage]
  split
  · exact ⟨nofun, nofun⟩
  · split <;> exact ⟨nofun, nofun⟩

theorem bindings_chanClosed : ChanClosed State.BindingsOk where
  plain | _, _, .mk .., h => h
  push _ _ h := h
  pops _ h := h
  scanner _ _ h := h
  lives _ _ _ h := h
  cfg _ _ _ _ h := h
  turn s c r _ h :=
    ((boundClosed s.env s.build).handAll (bound_ofTrackers _) _ _ _ _ (s.bindingsOk_iff.1 h)).put (s.setLive c r.1)

/-- Every change keeps the bindings: the matcher's by `boundClosed`, those of the pattern table case by case, and the
loads free every slot. -/
theorem bindings_stepClosed : StepClosed State.BindingsOk State.BindingsOk := {
  bindings_chanClosed.scanClosed with
  weaken := fun _ h => h, posts := fun _ _ _ _ h => h, clears := fun _ h => h, pulseEnd := fun _ _ h => h
  outLevel := fun _ _ h => h, writeGlobals := fun _ _ _ h => h, writeOutput := fun _ _ _ h => h
  patterns := fun _ _ ht h => ht.bindingsOk h
  stores := fun _ _ ht h => by cases ht <;> exact h
  rise := fun _ _ _ _ h => h
  works := fun s f hf h =>
    ((boundClosed s.env s.build).trackWork (s.bindingsOk_iff.1 h) hf (s.bindingsOk_iff.1 h)).put s
  restoreTake := fun s x _ _ => by
    refine bindingsOk_of_free (fun t => by simp [restoreTake]) (fun p => ?_) rfl
    simp only [restoreTake, getElem_ofFn_fin]
    cases s.patState[p] <;> exact ⟨nofun, nofun⟩
  restoreEnd := fun s x _ _ => by
    obtain ⟨_, _, _, e⟩ := restoreEnd_frame x s
    rw [e]; exact applyImage_bindingsOk _ s
  goDown := fun s _ _ _ _ => bindingsOk_of_free (fun t => by simp [State.goDown])
    (fun p => by simp [State.goDown]) rfl
  startUp := fun s cause low _ _ => by
    obtain ⟨_, _, _, _, e⟩ := s.startUp_frame cause low
    rw [e]; exact applyImage_bindingsOk _ s }

/-- Settles O10: every change that a step can make keeps the law (`bindings_stepClosed`). -/
theorem everyStepKeepsTheBindings : Obligations.EveryStepKeepsTheBindings :=
  fun _ _ => bindings_stepClosed.step_keeps

end Sys2Proof.Machine
end

section
/-! PROOF. O11: POOL_FREE and the steps held (03_patterns_and_the_step_pool.md, section 3.4). First the stored images,
which a load can bring (09_configuration_store_and_start_up.md, section 9.1), then the sums over the pattern table, then
the EMPTY patterns, which no work of the matcher makes. -/

namespace Sys2Proof.Machine

/-! ## Stored images -/

section Images

variable {P : Image → Prop} {s t : State}

theorem State.allImages_iff :
    s.AllImages P ↔ (∀ k, P (s.store.nv.get k).body) ∧ ∀ i ∈ s.engine.commitImage, P i :=
  ⟨fun ⟨a, b, c⟩ => ⟨fun | .a => a | .b => b, c⟩, fun ⟨n, c⟩ => ⟨n .a, n .b, c⟩⟩

/-- A bank is written. -/
theorem bodies_put {nv : Banks NvBank} {k : BankId} {n : NvBank} (h : ∀ k, P (nv.get k).body) (hn : P n.body) :
    ∀ j, P ((nv.put k n).get j).body := by
  intro j
  rw [Banks.get_put]
  split
  · exact hn
  · exact h j

/-- The banks are written and no commit is in flight. -/
theorem State.allImages_of_bodies (h : ∀ k, P (s.store.nv.get k).body) (hc : s.engine.commitImage = none) :
    s.AllImages P := State.allImages_iff.2 ⟨h, by rw [hc]; nofun⟩

/-- R161, R170 to R174, R179: the images stored are those that were stored, the commit image, and the factory image. -/
theorem StoreChange.allImages (hf : P factoryImage) (hc : s.build = none → P s.commitImage) (ht : StoreChange s t)
    (h : s.AllImages P) : t.AllImages P := by
  obtain ⟨nv, com⟩ := State.allImages_iff.1 h
  have inFlight {ph : CommitPhase} {k : BankId} {g : BitVec 16} {i : Image}
      (hi : s.engine.inFlight = some (.commit ph k g i)) : P i := com i (by simp [Engine.commitImage, hi])
  cases ht
  case commits k g _ _ hb =>
    exact State.allImages_iff.2 ⟨bodies_put nv (nv k), fun i hi => by cases hi; exact hc hb⟩
  case erased k g i hi =>
    exact State.allImages_iff.2 ⟨bodies_put nv hf, fun _ he => by cases he; exact inFlight hi⟩
  case programmed k g i hi =>
    exact State.allImages_iff.2 ⟨bodies_put nv (inFlight hi), fun _ he => by cases he; exact inFlight hi⟩
  case verified k g i hi => exact State.allImages_iff.2 ⟨nv, fun _ he => by cases he; exact inFlight hi⟩
  case written k g i hi =>
    exact State.allImages_iff.2 ⟨bodies_put nv (inFlight hi), fun _ he => by cases he; exact inFlight hi⟩
  case sealed w k g i hi => exact State.allImages_of_bodies (bodies_put nv (inFlight hi)) rfl
  case fails ph k g i hi => exact State.allImages_of_bodies (bodies_put nv (nv k)) rfl
  case eraseBegins c k f _ => exact State.allImages_of_bodies (bodies_put nv (nv k)) rfl
  case erasesNothing c _ => exact State.allImages_of_bodies nv rfl
  case eraseGoesOn k j f _ =>
    have blank := bodies_put (k := k) nv hf (n := NvBank.blank)
    exact State.allImages_of_bodies
      (bodies_put (k := j) (n := ((s.store.nv.put k NvBank.blank).get j).unformatted) blank (blank j)) rfl
  case eraseEnds k f _ => exact State.allImages_of_bodies (bodies_put nv hf) rfl

/-- R174, R180: a reset leaves no image that was not stored, but for the factory image's place in a BLANK bank. -/
theorem goDown_allImages (hf : P factoryImage) (done : Bool) (m : Mode) (h : s.AllImages P) :
    (s.goDown done m).AllImages P := by
  obtain ⟨nv, -⟩ := State.allImages_iff.1 h
  have cut (k : BankId) : P (cutErase done (s.store.nv.get k)).body := by
    unfold cutErase
    split
    · exact hf
    · exact nv k
  refine State.allImages_of_bodies ?_ rfl
  simp only [State.goDown, cutStore]
  split
  · exact bodies_put nv (cut _)
  · exact bodies_put nv (cut _)
  · exact nv

/-- R177, R178: the image of a source. -/
theorem imageOf_of_bodies {st : Store} (hf : P factoryImage) (h : ∀ k, P (st.nv.get k).body) (x : Source) :
    P (st.imageOf x) := by
  cases x with
  | factory => exact hf
  | bank k => exact h k

theorem examineAll_nv (st : Store) : st.examineAll.nv = st.nv := rfl

theorem startImage_of_allImages (hf : P factoryImage) (h : s.AllImages P) : P s.startImage :=
  imageOf_of_bodies (st := s.store.examineAll) hf (State.allImages_iff.1 h).1 _

end Images

/-! ## Sums over the pattern table -/

/-- A sum over a table of which one entry was replaced. -/
theorem sum_set {α : Type} (v : Vector α 24) (f : α → Nat) (p : PatIdx) (x : α) :
    (allPats.map fun q => f (v.set p x)[q]).sum + f v[p] = (allPats.map fun q => f v[q]).sum + f x := by
  have toFin (u : Vector α 24) : (allPats.map fun q => f u[q]).sum = f u[p] + ∑ q ∈ Finset.univ.erase p, f u[q] := by
    exact (Fin.sum_univ_def fun q => f u[q]).symm.trans
      (Finset.add_sum_erase _ (fun q => f u[q]) (Finset.mem_univ p)).symm
  have rest : ∑ q ∈ Finset.univ.erase p, f (v.set p x)[q] = ∑ q ∈ Finset.univ.erase p, f v[q] := by
    refine Finset.sum_congr rfl fun q hq => ?_
    rw [getElem_set_fin, if_neg (Finset.ne_of_mem_erase hq).symm]
  have here : f (v.set p x)[p] = f x := by rw [getElem_set_fin, if_pos rfl]
  rw [toFin, toFin, rest, here]
  omega

/-- The steps of an image, as a sum over the patterns. -/
theorem stepTotal_eq (i : Image) : i.stepTotal = (allPats.map fun p => PatImage.count i.pats[p]).sum := by
  unfold Image.stepTotal
  congr 1
  refine List.ext_getElem (by simp [allPats]) fun k h1 h2 => ?_
  simp [allPats]

theorem factoryImage_stepTotal : factoryImage.stepTotal = 0 := by decide

/-- R60: a loaded pattern holds the steps of its image. -/
theorem applyImage_stepsHeld (i : Image) (s : State) : (s.applyImage i).stepsHeld = i.stepTotal := by
  rw [stepTotal_eq]
  simp only [State.stepsHeld, State.applyImage, getElem_ofFn_fin]
  congr 2
  funext p
  cases i.pats[p] <;> rfl

/-- R170: a commit image holds no more steps than the table. -/
theorem commitImage_stepTotal (s : State) : s.commitImage.stepTotal ≤ s.stepsHeld := by
  rw [stepTotal_eq]
  refine List.sum_le_sum fun p _ => ?_
  simp only [State.commitImage, getElem_ofFn_fin]
  cases s.patState[p] <;> simp [patToImage, PatImage.count]

/-! ## EMPTY patterns -/

/-- No pattern is EMPTY that was not EMPTY in `pstate`. -/
def Recog.EmptyOnlyFrom (pstate : Vector PatState 24) (w : Recog) : Prop :=
  ∀ p : PatIdx, w.pstate[p] = .empty → pstate[p] = .empty

theorem Recog.EmptyOnlyFrom.set {pstate : Vector PatState 24} {w v : Recog} {p : PatIdx} {st : PatState}
    (h : w.EmptyOnlyFrom pstate) (hs : st ≠ .empty) (hv : v.pstate = w.pstate.set p st) : v.EmptyOnlyFrom pstate := by
  intro q hq
  rw [hv, getElem_set_fin] at hq
  split at hq
  · exact absurd hq hs
  · exact h q hq

/-- No work of the matcher makes a pattern EMPTY. -/
theorem emptyOnlyFrom_closed (e : Env) (pstate : Vector PatState 24) : EventClosed e (Recog.EmptyOnlyFrom pstate) where
  ends t reason time st w hs h := by
    cases hp : w.trackers[t].pattern with
    | none => rwa [endSlot_free e t reason time st w hp]
    | some p => exact h.set (by rcases hs with rfl | rfl <;> nofun) (endSlot_bound hp).1
  completes t p te deferred time w hp h := by
    obtain ⟨held, h1, -⟩ := completeSlot_bound (e := e) (t := t) (p := p) (te := te) (deferred := deferred)
      (time := time) (w := w)
    refine h.set ?_ h1
    unfold rearmState
    split
    · nofun
    · nofun
    · split <;> nofun
  unblocks _ _ h := h
  claims _ _ h := h
  moves _ _ _ _ _ _ h := h
  pends _ _ _ _ _ _ h := h
  starts t p time w w0 _ h _ _ _ := h.set (p := p) (st := .active) nofun rfl
  refuses p time w h := by unfold refuseStart; cases (e.pat p).header.reportAbort <;> exact h
  held ev w h := by
    unfold stage2
    split
    · exact h
    · intro p hp
      simp only [getElem_ofFn_fin, unlock] at hp
      split at hp
      · cases hp
      · exact h p hp
  begins _ h := h

/-! ## The law -/

/-- R38, R45 with R161: what `State.PoolOk` says, by name. -/
structure State.PoolKept (s : State) : Prop where
  empty : ∀ p : PatIdx, s.patState[p] = .empty → s.patDef[p] = PatDef.empty
  sum : s.poolFree + s.stepsHeld = poolSize
  images : s.AllImages fun i => i.stepTotal ≤ poolSize

theorem State.poolOk_iff (s : State) : s.PoolOk ↔ s.PoolKept := ⟨fun ⟨a, b, c⟩ => ⟨a, b, c⟩, fun ⟨a, b, c⟩ => ⟨a, b, c⟩⟩

theorem State.PoolKept.commit {s : State} (h : s.PoolKept) : s.commitImage.stepTotal ≤ poolSize := by
  have := commitImage_stepTotal s
  have := h.sum
  omega

/-- The matcher's work keeps the law. -/
theorem State.PoolKept.put {s : State} {w : Recog} (h : s.PoolKept) (hw : w.EmptyOnlyFrom s.patState) :
    (s.putRecog w).PoolKept where
  empty p hp := h.empty p (hw p hp)
  sum := h.sum
  images := h.images

/-- One pattern takes a definition and a state, and POOL_FREE follows its steps. -/
theorem State.PoolKept.setPattern {s : State} (h : s.PoolKept) {p : PatIdx} {d : PatDef} {st : PatState} {free : Nat}
    {build : Option PatIdx} (he : st = .empty → d = PatDef.empty)
    (hs : free + d.steps.length = s.poolFree + s.patDef[p].steps.length) :
    State.PoolKept { s.setPattern p d st with build := build, poolFree := free } where
  empty q hq := by
    simp only [State.setPattern, getElem_set_fin] at hq ⊢
    split
    · next e => rw [if_pos e] at hq; exact he hq
    · next e => rw [if_neg e] at hq; exact h.empty q hq
  sum := by
    have h1 := h.sum
    have h2 := sum_set s.patDef (fun x => x.steps.length) p d
    simp only [State.stepsHeld, State.setPattern] at h1 ⊢
    omega
  images := h.images

/-- One pattern's definition changes and its state does not. -/
theorem State.PoolKept.setDef {s : State} (h : s.PoolKept) {p : PatIdx} {d : PatDef} {free : Nat}
    (he : s.patState[p] ≠ .empty) (hs : free + d.steps.length = s.poolFree + s.patDef[p].steps.length) :
    State.PoolKept { s with patDef := s.patDef.set p d, poolFree := free } := by
  have := h.setPattern (p := p) (d := d) (st := s.patState[p]) (build := s.build) (fun e => absurd e he) hs
  have same : s.patState.set p s.patState[p] = s.patState := by simp
  rwa [State.setPattern, same] at this

theorem PatChange.poolKept {s t : State} (ht : PatChange s t) (hb : s.BindingsOk) (h : s.PoolKept) : t.PoolKept := by
  obtain ⟨-, -, building⟩ := hb
  cases ht with
  | begins p header hb hst hh => exact h.setPattern (free := s.poolFree) nofun (by rw [h.empty p hst]; rfl)
  | appends p x hb hl hf hx => exact h.setDef (by rw [(building p).2 hb]; nofun) (by simp; omega)
  | ends p hb hc =>
    refine h.setPattern (free := s.poolFree) (fun he => ?_) rfl
    split at he <;> cases he
  | abandons p hb => exact h.setPattern (fun _ => rfl) rfl
  | revises p header hst hh hf hp => exact h.setDef (free := s.poolFree) (by rw [hst]; nofun) rfl
  | deletes p hst => exact h.setPattern (build := s.build) (fun _ => rfl) rfl
  | moves p st hst ht =>
    have := h.setPattern (p := p) (d := s.patDef[p]) (st := st) (build := s.build) (free := s.poolFree)
      (fun e => by subst e; simp at ht) rfl
    have same : s.patDef.set p s.patDef[p] = s.patDef := by simp
    rwa [State.setPattern, same] at this

/-- R60: the end of a load, where the stored images have their place. -/
theorem applyImage_poolKept {i : Image} {s t : State} (hi : i.stepTotal ≤ poolSize)
    (ht : t.AllImages fun i => i.stepTotal ≤ poolSize) (hd : t.patDef = (s.applyImage i).patDef)
    (hs : t.patState = (s.applyImage i).patState) (hf : t.poolFree = poolSize - i.stepTotal) : t.PoolKept where
  empty p hp := by
    rw [hs] at hp
    simp only [hd, State.applyImage, getElem_ofFn_fin] at hp ⊢
    cases hq : i.pats[p] with
    | none => rfl
    | some q =>
      simp only [hq, stateFromImage] at hp
      split at hp <;> cases hp
  sum := by
    have : t.stepsHeld = i.stepTotal := by rw [← applyImage_stepsHeld i s, State.stepsHeld, State.stepsHeld, hd]
    omega
  images := ht

/-- R61: the take of a restore returns the steps of an open build to the pool. -/
theorem restoreTake_poolKept (x : Source) {s : State} (h : s.PoolKept) : (restoreTake x s).PoolKept where
  empty p hp := by
    simp only [restoreTake, getElem_ofFn_fin] at hp ⊢
    split
    · rfl
    · next hb =>
      refine h.empty p ?_
      revert hp hb
      cases s.patState[p] <;> simp [patAtRestore]
  sum := by
    have h1 := h.sum
    have h2 : (allPats.map fun p => if s.patState[p] = .building then s.patDef[p].steps.length else 0).sum
        + (restoreTake x s).stepsHeld = s.stepsHeld := by
      simp only [State.stepsHeld, ← List.sum_map_add]
      refine congrArg List.sum (List.map_congr_left fun p _ => ?_)
      simp only [restoreTake, getElem_ofFn_fin]
      by_cases hb : s.patState[p] = .building
      · simp only [if_pos hb]; rfl
      · simp only [if_neg hb, Nat.zero_add]
    have h3 : (restoreTake x s).poolFree = s.poolFree + (allPats.map fun p =>
        if s.patState[p] = .building then s.patDef[p].steps.length else 0).sum := rfl
    rw [h3, Nat.add_assoc, h2]
    exact h1
  images := State.allImages_of_bodies (State.allImages_iff.1 h.images).1 rfl

theorem factory_fits : factoryImage.stepTotal ≤ poolSize := by rw [factoryImage_stepTotal]; decide

theorem pool_chanClosed : ChanClosed fun s => s.BindingsOk ∧ s.PoolKept := {
  plain := fun | _, _, .mk .., ⟨hb, a, b, c⟩ => ⟨hb, a, b, c⟩
  push := fun _ _ ⟨hb, a, b, c⟩ => ⟨hb, a, b, c⟩, pops := fun _ ⟨hb, a, b, c⟩ => ⟨hb, a, b, c⟩
  scanner := fun _ _ ⟨hb, a, b, c⟩ => ⟨hb, a, b, c⟩, lives := fun _ _ _ ⟨hb, a, b, c⟩ => ⟨hb, a, b, c⟩
  cfg := fun _ _ _ _ ⟨hb, a, b, c⟩ => ⟨hb, a, b, c⟩
  turn := fun s c r hr ⟨hb, h⟩ => ⟨bindings_chanClosed.turn s c r hr hb, by
    have live : (s.setLive c r.1).PoolKept := ⟨h.empty, h.sum, h.images⟩
    exact live.put ((emptyOnlyFrom_closed s.env s.patState).handAll (fun _ _ _ _ h => h) _ _ _ _ fun _ h => h)⟩ }

/-- Every change keeps the law, together with the bindings. -/
theorem pool_stepClosed : StepClosed (fun s => s.BindingsOk ∧ s.PoolKept) (fun s => s.BindingsOk ∧ s.PoolKept) := {
  pool_chanClosed.scanClosed with
  weaken := fun _ h => h
  posts := fun s r d _ ⟨hb, h⟩ => ⟨hb, h.empty, h.sum, State.allImages_of_bodies (State.allImages_iff.1 h.images).1 rfl⟩
  clears := fun _ ⟨hb, a, b, c⟩ => ⟨hb, a, b, c⟩, pulseEnd := fun _ _ ⟨hb, a, b, c⟩ => ⟨hb, a, b, c⟩
  outLevel := fun _ _ ⟨hb, a, b, c⟩ => ⟨hb, a, b, c⟩, writeGlobals := fun _ _ _ ⟨hb, a, b, c⟩ => ⟨hb, a, b, c⟩
  writeOutput := fun _ _ _ ⟨hb, a, b, c⟩ => ⟨hb, a, b, c⟩, rise := fun _ _ _ _ ⟨hb, a, b, c⟩ => ⟨hb, a, b, c⟩
  works := fun s f hf ⟨hb, h⟩ => ⟨bindings_stepClosed.works s f hf hb,
    h.put ((emptyOnlyFrom_closed s.env s.patState).trackWork (s.bindingsOk_iff.1 hb) hf fun _ h => h)⟩
  patterns := fun s t ht ⟨hb, h⟩ => ⟨bindings_stepClosed.patterns s t ht hb, ht.poolKept hb h⟩
  stores := fun s t ht ⟨hb, h⟩ => ⟨bindings_stepClosed.stores s t ht hb, by
    have images := ht.allImages factory_fits (fun _ => h.commit) h.images
    cases ht <;> exact ⟨h.empty, h.sum, images⟩⟩
  restoreTake := fun s x hf ⟨hb, h⟩ => ⟨bindings_stepClosed.restoreTake s x hf hb, restoreTake_poolKept x h⟩
  restoreEnd := fun s x hf ⟨hb, h⟩ => ⟨bindings_stepClosed.restoreEnd s x hf hb, by
    obtain ⟨_, _, _, e⟩ := restoreEnd_frame x s
    have bodies := (State.allImages_iff.1 h.images).1
    rw [e]
    exact applyImage_poolKept (s := s) (imageOf_of_bodies (P := fun i => i.stepTotal ≤ poolSize) factory_fits bodies x)
        (State.allImages_of_bodies bodies rfl) rfl rfl rfl⟩
  goDown := fun s done m hm ⟨hb, h⟩ => ⟨bindings_stepClosed.goDown s done m hm hb,
    fun p _ => by simp [State.goDown], by simp [State.goDown, State.stepsHeld, PatDef.empty],
    goDown_allImages factory_fits done m h.images⟩
  startUp := fun s cause low hm ⟨hb, h⟩ => ⟨bindings_stepClosed.startUp s cause low hm hb, by
    obtain ⟨_, _, _, _, e⟩ := s.startUp_frame cause low
    rw [e]
    exact applyImage_poolKept (s := s)
        (startImage_of_allImages (P := fun i => i.stepTotal ≤ poolSize) factory_fits h.images)
      (State.allImages_of_bodies (State.allImages_iff.1 h.images).1 rfl) rfl rfl rfl⟩ }

/-- Settles O11: every change that a step can make keeps the pool's law, with the bindings (`pool_stepClosed`). -/
theorem everyStepKeepsThePoolLaw : Obligations.EveryStepKeepsThePoolLaw := fun s t hb h ht =>
  t.poolOk_iff.2 (pool_stepClosed.step_keeps ⟨hb, s.poolOk_iff.1 h⟩ ht).2

end Sys2Proof.Machine
end

section
/-! PROOF. O12: what the configuration holds has passed the checks of the command that put it there
(03_patterns_and_the_step_pool.md, 09_configuration_store_and_start_up.md). First what a header, a step and an image
that were accepted satisfy, then the pattern table and the trackers, then the loads. -/

namespace Sys2Proof.Machine

/-! ## Accepted records -/

/-- A header read from the buffer as good is in range (R40). -/
theorem readHeader_wf {b : Buf} {h : PatHeader} (hr : readHeader b = .good h) : h.wf = true := by
  obtain ⟨-, rfl⟩ := (judge_good _ _ _).1 hr
  have h9 := b[9].isLt
  have h12 := b[12].isLt
  simp only [PatHeader.wf, Bool.and_eq_true, decide_eq_true_eq]
  omega

/-- R42: one step at the end of a list: its fields and the position of its KIND. -/
theorem stepsWf_single (before : List Step) (x : Step) :
    stepsWf before.reverse [x] = (x.fieldsWf before.length && kindAllowed x.kind before) := by
  have last : before.getLast? = before.reverse.head? := List.head?_reverse.symm
  simp only [stepsWf, Bool.and_true, List.length_reverse, kindAllowed]
  congr 1
  cases x.kind with
  | chord | tap => rfl
  | hold | lift => cases before <;> simp
  | quiet =>
    simp only [last]
    cases before.reverse <;> rfl

/-- R42: the checks of fields 2 to 5 of a step pass where its fields are in range. -/
theorem stepChecks_iff (k : Kind) (pos : Nat) (set : ChanSet) (e l sp : Nat) (he : e ≤ 255) (hl : l ≤ 255)
    (hs : sp ≤ 255) : (∀ c ∈ stepChecks k pos (some set) e l sp, c.2 = true)
      ↔ Step.fieldsWf pos { kind := k, channels := set, earliest := e, latest := l, span := sp } = true := by
  have range : (e ≤ 255 && l ≤ 255 && sp ≤ 255) = true := by simp [he, hl, hs]
  cases k <;> simp only [stepChecks, Step.fieldsWf, range, Bool.true_and, List.forall_mem_cons, Option.isSome_some,
    Option.getD_some, Bool.and_eq_true, and_assoc]
  case chord | tap =>
    by_cases hp : pos = 0
    · simp [hp]; tauto
    · simp [hp]; tauto
  case hold | lift | quiet => simp; try tauto

/-- R42: what a step record accepted at the end of a list meets. -/
theorem readStep_wf {b : Buf} {before : List Step} {x : Step} (hr : readStep b before = .good x) :
    stepsWf before.reverse [x] = true := by
  have byte (v : Byte) : v.toNat ≤ 255 := Nat.le_of_lt_succ v.isLt
  unfold readStep at hr
  split at hr
  · cases hr
  · next k hk =>
    split at hr
    · next ha =>
      obtain ⟨hc, rfl⟩ := (judge_good _ _ _).1 hr
      rw [firstFail_eq_none_iff] at hc
      have set : chansOf b[1] b[2] = some ((chansOf b[1] b[2]).getD 0) := by
        cases hs : chansOf b[1] b[2] with
        | some set => rfl
        | none => cases k <;> simp [stepChecks, hs] at hc
      rw [set] at hc
      rw [stepsWf_single, Bool.and_eq_true]
      exact ⟨(stepChecks_iff k before.length _ _ _ _ (byte _) (byte _) (byte _)).1 hc, ha⟩
    · cases hr

/-- R42: a list of steps one after another. -/
theorem stepsWf_append (before l : List Step) (x : Step) :
    stepsWf before (l ++ [x]) = (stepsWf before l && stepsWf (l.reverse ++ before) [x]) := by
  induction l generalizing before with
  | nil => simp [stepsWf]
  | cons a l ih => simp [stepsWf, ih, Bool.and_assoc]

/-! ## Images -/

/-- R161: what is recorded of a pattern, in range and past the checks of END_PATTERN. -/
def PatChecked (q : PatImage) : Prop := q.wf = true ∧ endChecksPass q.header q.steps = true

theorem Vector.all_toList_iff {α : Type} {n : Nat} (v : Vector α n) (f : α → Bool) :
    v.toList.all f = true ↔ ∀ i : Fin n, f v[i] = true := by
  simp only [List.all_eq_true, Vector.mem_toList_iff, Vector.mem_iff_getElem]
  exact ⟨fun h i => h _ ⟨i, i.isLt, rfl⟩, fun h x ⟨i, hi, e⟩ => e ▸ h ⟨i, hi⟩⟩

theorem imageChecked_iff (i : Image) : imageChecked i = true ↔ i.globals.wf = true
    ∧ (∀ c : Chan, i.chans[c].wf = true) ∧ (∀ (p : PatIdx) (q : PatImage), i.pats[p] = some q → PatChecked q)
    ∧ i.stepTotal ≤ poolSize := by
  have each (p : PatIdx) : ((match i.pats[p] with | none => true | some q => q.wf) = true
      ∧ (match i.pats[p] with | none => true | some q => endChecksPass q.header q.steps) = true)
      ↔ ∀ q, i.pats[p] = some q → PatChecked q := by
    cases i.pats[p] <;> simp [PatChecked]
  simp only [imageChecked, Image.wf, Bool.and_eq_true, decide_eq_true_eq, Vector.all_toList_iff, ← each, forall_and]
  tauto

theorem factoryImage_checked : imageChecked factoryImage = true := by decide

/-! ## Definitions and states -/

/-- A pattern in one of these states is defined (R38). -/
def PatState.Defined (st : PatState) : Prop := st ≠ .empty ∧ st ≠ .building

/-- R38: what the entry of a defined pattern holds. -/
structure PatDef.Sound (d : PatDef) : Prop where
  header : d.header.wf = true
  some_ : 1 ≤ d.steps.length
  atMost : d.steps.length ≤ 8
  steps : stepsWf [] d.steps = true
  passed : endChecksPass d.header d.steps = true
  univ : d.univ = unionOf d.steps

theorem PatDef.shapeIn_defined {d : PatDef} {st : PatState} (h : st.Defined) : d.shapeIn st = true ↔ d.Sound := by
  have : d.shapeIn st = (d.header.wf && 1 ≤ d.steps.length && d.steps.length ≤ 8 && stepsWf [] d.steps
      && endChecksPass d.header d.steps && d.univ == unionOf d.steps) := by
    cases st with
    | empty => exact absurd rfl h.1
    | building => exact absurd rfl h.2
    | _ => rfl
  rw [this]
  simp only [Bool.and_eq_true, decide_eq_true_eq, beq_iff_eq]
  exact ⟨fun ⟨⟨⟨⟨⟨a, b⟩, c⟩, e⟩, f⟩, g⟩ => ⟨a, b, c, e, f, g⟩, fun ⟨a, b, c, e, f, g⟩ => ⟨⟨⟨⟨⟨a, b⟩, c⟩, e⟩, f⟩, g⟩⟩

/-- A definition fits every state of a defined pattern, or none. -/
theorem PatDef.shapeIn_moved {d : PatDef} {st st' : PatState} (h : st.Defined) (h' : st'.Defined)
    (hd : d.shapeIn st = true) : d.shapeIn st' = true :=
  (shapeIn_defined h').2 ((shapeIn_defined h).1 hd)

/-- R49: a pattern that passes END_PATTERN. -/
theorem endChecks_pass {d : PatDef} (h : firstFail (endChecks d) = none) :
    1 ≤ d.steps.length ∧ endChecksPass d.header d.steps = true := by
  rw [firstFail_eq_none_iff] at h
  simp only [endChecks, List.forall_mem_cons] at h
  obtain ⟨h1, h2, h3, h4, h5, -⟩ := h
  refine ⟨?_, by simp [endChecksPass, h2, h3, h4, h5]⟩
  cases hs : d.steps <;> simp_all

/-! ## Pattern table and trackers -/

/-- R38, R64: every pattern's entry fits its state, and every tracker is on a step of its pattern. -/
structure Recog.Shaped (defs : Vector PatDef 24) (w : Recog) : Prop where
  shape : ∀ p : PatIdx, defs[p].shapeIn w.pstate[p] = true
  step : ∀ (t : SlotIdx) (p : PatIdx), w.trackers[t].pattern = some p → w.trackers[t].step < defs[p].steps.length

theorem active_defined : PatState.Defined .active := ⟨nofun, nofun⟩

theorem disabled_defined : PatState.Defined .disabled := ⟨nofun, nofun⟩

theorem ready_defined : PatState.Defined .ready := ⟨nofun, nofun⟩

theorem rearmState_defined (d : PatDef) (held : ChanSet) : (rearmState d held).Defined := by
  unfold rearmState
  split
  · exact ⟨nofun, nofun⟩
  · exact ⟨nofun, nofun⟩
  · split <;> exact ⟨nofun, nofun⟩

namespace Recog.Shaped

variable {defs : Vector PatDef 24} {w v : Recog}

/-- A defined pattern takes another state of a defined one. -/
theorem setPat {p : PatIdx} {st : PatState} (h : w.Shaped defs) (hp : PatState.Defined w.pstate[p]) (hs : st.Defined)
    (q : PatIdx) : defs[q].shapeIn (w.pstate.set p st)[q] = true := by
  simp only [getElem_set_fin]
  split
  · next e => exact e ▸ PatDef.shapeIn_moved hp hs (h.shape p)
  · exact h.shape q

/-- A slot is freed. -/
theorem freed (h : w.Shaped defs) (t u : SlotIdx) (p : PatIdx) (hp : (w.trackers.set t .free)[u].pattern = some p) :
    (w.trackers.set t .free)[u].step < defs[p].steps.length := by
  simp only [getElem_set_fin] at hp ⊢
  split
  · next e => rw [if_pos e] at hp; cases hp
  · next e => rw [if_neg e] at hp; exact h.step u p hp

/-- A slot's record moves within its pattern. -/
theorem moved (h : w.Shaped defs) {t : SlotIdx} {x : Tracker} (hp : x.pattern = w.trackers[t].pattern)
    (hs : ∀ p, x.pattern = some p → w.trackers[t].step < defs[p].steps.length → x.step < defs[p].steps.length) :
    (w.setTracker t x).Shaped defs where
  shape := h.shape
  step u p hu := by
    simp only [Recog.setTracker_trackers, getElem_set_fin] at hu ⊢
    split
    · next e =>
      rw [if_pos e] at hu
      exact hs p hu (h.step t p (hp.symm.trans hu))
    · next e => rw [if_neg e] at hu; exact h.step u p hu

end Recog.Shaped

/-- The matcher keeps both together. -/
theorem shapedClosed (e : Env) (build : Option PatIdx) :
    EventClosed e fun w => w.Bound build ∧ w.Shaped e.defs where
  ends t reason time st w hs h := by
    refine ⟨(boundClosed e build).ends t reason time st w hs h.1, ?_⟩
    cases hp : w.trackers[t].pattern with
    | none => rw [endSlot_free e t reason time st w hp]; exact h.2
    | some p =>
      obtain ⟨h1, h2⟩ := endSlot_bound (e := e) (reason := reason) (time := time) (st := st) hp
      have act := (h.1.active p).2 ⟨t, hp⟩
      have def_ : st.Defined := by rcases hs with rfl | rfl <;> exact ⟨nofun, nofun⟩
      exact ⟨fun q => by rw [h1]; exact h.2.setPat (act ▸ active_defined) def_ q,
        fun u q => by rw [h2]; exact h.2.freed t u q⟩
  completes t p te deferred time w hp h := by
    refine ⟨(boundClosed e build).completes t p te deferred time w hp h.1, ?_⟩
    obtain ⟨held, h1, h2⟩ := completeSlot_bound (e := e) (t := t) (p := p) (te := te) (deferred := deferred)
      (time := time) (w := w)
    have act := (h.1.active p).2 ⟨t, hp⟩
    exact ⟨fun q => by rw [h1]; exact h.2.setPat (act ▸ active_defined) (rearmState_defined ..) q,
      fun u q => by rw [h2]; exact h.2.freed t u q⟩
  unblocks gone w h := by
    refine ⟨(boundClosed e build).unblocks gone w h.1, h.2.shape, fun t p hp => ?_⟩
    simp only [getElem_ofFn_fin, unblock_pattern] at hp ⊢
    have : (unblock gone w.trackers[t]).step = w.trackers[t].step := by cases w.trackers[t] <;> rfl
    rw [this]
    exact h.2.step t p hp
  claims univ w h := ⟨(boundClosed e build).claims univ w h.1, h.2.shape, h.2.step⟩
  moves t x y w hx hm h := by
    refine ⟨(boundClosed e build).moves t x y w hx hm h.1, h.2.moved ?_ fun p hp hlt => ?_⟩
    · rw [hx]; exact congrArg some hm.pattern
    · obtain rfl := (Option.some.inj hp)
      rw [hx] at hlt
      show y.step < _
      rw [hm.pattern] at hlt ⊢
      exact hm.step hlt
  pends t x te w hx hb h := by
    refine ⟨(boundClosed e build).pends t x te w hx hb h.1, h.2.moved ?_ fun p hp hlt => ?_⟩
    · rw [hx]; rfl
    · rw [hx] at hlt; exact hlt
  starts t p time w w0 ht h h0 hr hw := by
    refine ⟨(boundClosed e build).starts t p time w w0 ht h.1 h0.1 hr hw, ?_⟩
    have sound : e.defs[p].Sound := (PatDef.shapeIn_defined ready_defined).1 (hr ▸ h0.2.shape p)
    constructor
    · intro q
      simp only [Recog.setPat_pstate, Recog.setTracker_pstate, getElem_set_fin]
      split
      · next e' => exact e' ▸ (PatDef.shapeIn_defined active_defined).2 sound
      · exact h.2.shape q
    · intro u q hq
      simp only [Recog.setPat_trackers, Recog.setTracker_trackers, getElem_set_fin] at hq ⊢
      split
      · next e' =>
        rw [if_pos e'] at hq
        obtain rfl := Option.some.inj hq
        exact sound.some_
      · next e' => rw [if_neg e'] at hq; exact h.2.step u q hq
  refuses p time w h := by
    refine ⟨(boundClosed e build).refuses p time w h.1, ?_⟩
    unfold refuseStart
    cases (e.pat p).header.reportAbort <;> exact ⟨h.2.shape, h.2.step⟩
  held ev w h := by
    refine ⟨(boundClosed e build).held ev w h.1, fun p => ?_, fun t p => by rw [stage2_trackers]; exact h.2.step t p⟩
    unfold stage2
    split
    · exact h.2.shape p
    · simp only [getElem_ofFn_fin, unlock]
      split
      · next hl =>
        simp only [Bool.and_eq_true, decide_eq_true_eq] at hl
        exact PatDef.shapeIn_moved (st := .locked) ⟨nofun, nofun⟩ ready_defined (hl.1 ▸ h.2.shape p)
      · exact h.2.shape p
  begins w h := ⟨(boundClosed e build).begins w h.1, h.2.shape, h.2.step⟩

/-! ## The law -/

/-- R38, R64, R161: what `State.ConfigOk` says, by name. -/
structure State.ConfigKept (s : State) : Prop where
  globals : s.globals.wf = true
  chans : ∀ c : Chan, s.chanCfg[c].wf = true
  shape : ∀ p : PatIdx, s.patDef[p].shapeIn s.patState[p] = true
  step : ∀ (t : SlotIdx) (p : PatIdx), s.trackers[t].pattern = some p → s.trackers[t].step < s.patDef[p].steps.length
  images : s.AllImages fun i => imageChecked i = true

theorem State.configOk_iff (s : State) : s.ConfigOk ↔ s.ConfigKept :=
  ⟨fun ⟨a, b, c, d, e⟩ => ⟨a, b, c, d, e⟩, fun ⟨a, b, c, d, e⟩ => ⟨a, b, c, d, e⟩⟩

theorem State.ConfigKept.shaped {s : State} (h : s.ConfigKept) : s.recog.Shaped s.patDef := ⟨h.shape, h.step⟩

/-- One pattern to which no slot is bound takes a definition and a state that fit. -/
theorem Recog.Shaped.redefined {defs : Vector PatDef 24} {w : Recog} (h : w.Shaped defs) {p : PatIdx} {d : PatDef}
    {st : PatState} (hu : ∀ t : SlotIdx, w.trackers[t].pattern ≠ some p) (hd : d.shapeIn st = true) :
    (w.setPat p st).Shaped (defs.set p d) where
  shape q := by
    simp only [Recog.setPat_pstate, getElem_set_fin]
    by_cases e : p = q
    · simp only [if_pos e]; exact hd
    · simp only [if_neg e]; exact h.shape q
  step t q hq := by
    have hne : p ≠ q := fun e => hu t (e ▸ hq)
    simp only [getElem_set_fin, if_neg hne]
    exact h.step t q hq

theorem Recog.Bound.unbound {build : Option PatIdx} {w : Recog} (h : w.Bound build) {p : PatIdx}
    (hp : w.pstate[p] ≠ .active) (t : SlotIdx) : w.trackers[t].pattern ≠ some p := fun ht => hp ((h.active p).2 ⟨t, ht⟩)

/-- R42, R48: what the pattern of an open build holds. -/
theorem PatDef.shapeIn_building {d : PatDef} : d.shapeIn .building = true ↔
    d.header.wf = true ∧ d.steps.length ≤ 8 ∧ stepsWf [] d.steps = true ∧ d.univ = 0 := by
  simp [PatDef.shapeIn, and_assoc]

/-- R48 to R57: every change of the pattern table leaves entries that fit their states. -/
theorem PatChange.shaped {s t : State} (ht : PatChange s t) (hb : s.BindingsOk) (h : s.recog.Shaped s.patDef) :
    t.recog.Shaped t.patDef := by
  have bound := s.bindingsOk_iff.1 hb
  have building {p : PatIdx} (hp : s.build = some p) : s.patState[p] = .building := (bound.building p).2 hp
  have set {p : PatIdx} {d : PatDef} {st : PatState} (ha : s.patState[p] ≠ .active) (hd : d.shapeIn st = true) :
      (s.recog.setPat p st).Shaped (s.patDef.set p d) := h.redefined (bound.unbound ha) hd
  have keep {p : PatIdx} {d : PatDef} (ha : s.patState[p] ≠ .active) (hd : d.shapeIn s.patState[p] = true) :
      s.recog.Shaped (s.patDef.set p d) := by
    have := set ha hd
    have same : s.patState.set p s.patState[p] = s.patState := by simp
    rwa [show s.recog.setPat p s.patState[p] = s.recog by simp only [Recog.setPat, State.recog, same]] at this
  have entry (p : PatIdx) {st : PatState} (hs : s.patState[p] = st) : s.patDef[p].shapeIn st = true :=
    hs ▸ h.shape p
  cases ht with
  | begins p header _ hst hh =>
    exact set (by rw [hst]; nofun) (PatDef.shapeIn_building.2 ⟨readHeader_wf hh, Nat.zero_le _, rfl, rfl⟩)
  | appends p x hp hl hf hx =>
    obtain ⟨h1, h2, h3, h4⟩ := PatDef.shapeIn_building.1 (entry p (building hp))
    refine keep (by rw [building hp]; nofun) ?_
    rw [building hp]
    refine PatDef.shapeIn_building.2 ⟨h1, by simpa using hl, ?_, h4⟩
    simp only [stepsWf_append, h3, List.append_nil, readStep_wf hx, Bool.and_self]
  | ends p hp hc =>
    obtain ⟨h1, h2, h3, h4⟩ := PatDef.shapeIn_building.1 (entry p (building hp))
    obtain ⟨h5, h6⟩ := endChecks_pass hc
    refine set (by rw [building hp]; nofun) ((PatDef.shapeIn_defined ?_).2 ⟨h1, h5, h2, h3, h6, rfl⟩)
    split <;> exact ⟨nofun, nofun⟩
  | abandons p hp => exact set (by rw [building hp]; nofun) (by decide)
  | revises p header hst hh hf hpu =>
    have sound := (PatDef.shapeIn_defined disabled_defined).1 (entry p hst)
    have passed := sound.passed
    simp only [endChecksPass, Bool.and_eq_true] at passed
    obtain ⟨⟨⟨h2, h3⟩, -⟩, -⟩ := passed
    refine keep (by rw [hst]; nofun) ?_
    rw [hst]
    have passes : endChecksPass header s.patDef[p].steps = true := by
        simp only [endChecksPass, h2, h3, hf, hpu, Bool.and_self]
    exact (PatDef.shapeIn_defined (d := { s.patDef[p] with header := header }) disabled_defined).2
      ⟨readHeader_wf hh, sound.some_, sound.atMost, sound.steps, passes, sound.univ⟩
  | deletes p hst => exact set (by rw [hst]; nofun) (by decide)
  | moves p st hst ht =>
    refine ⟨h.setPat ?_ ?_, h.step⟩
    · rw [State.recog_pstate]
      revert hst
      cases s.patState[p] <;> simp [PatState.Defined]
    · revert ht
      cases st <;> simp [PatState.Defined]

/-! ## Images -/

/-- R60: the end of a load. -/
theorem applyImage_configKept {i : Image} {s t : State} (hi : imageChecked i = true)
    (ht : t.AllImages fun i => imageChecked i = true) (hg : t.globals = i.globals) (hc : t.chanCfg = i.chans)
    (hd : t.patDef = (s.applyImage i).patDef) (hp : t.patState = (s.applyImage i).patState)
    (hf : t.trackers = Vector.replicate 6 .free) : t.ConfigKept := by
  obtain ⟨h1, h2, h3, -⟩ := (imageChecked_iff i).1 hi
  refine ⟨hg ▸ h1, hc ▸ h2, fun p => ?_, fun u p hu => ?_, ht⟩
  · simp only [hd, hp, State.applyImage, getElem_ofFn_fin]
    cases hq : i.pats[p] with
    | none => decide
    | some q =>
      obtain ⟨hw, he⟩ := h3 p q hq
      simp only [PatImage.wf, Bool.and_eq_true, decide_eq_true_eq] at hw
      obtain ⟨⟨⟨w1, w2⟩, w3⟩, w4⟩ := hw
      refine (PatDef.shapeIn_defined ?_).2 ⟨w1, w2, w3, w4, he, rfl⟩
      simp only [stateFromImage]
      split <;> exact ⟨nofun, nofun⟩
  · rw [hf] at hu
    simp [Tracker.pattern] at hu

/-- R170: what is recorded of a pattern that is recorded. -/
theorem patToImage_some {d : PatDef} {st : PatState} {q : PatImage} (h : patToImage d st = some q) :
    st ≠ .empty ∧ q.header = d.header ∧ q.steps = d.steps := by
  cases st with
  | empty => cases h
  | _ => cases h; exact ⟨nofun, rfl, rfl⟩

/-- R161, R170: a commit image of a part with no open build is past every check. -/
theorem State.ConfigKept.commit {s : State} (h : s.ConfigKept) (hb : s.BindingsOk) (hp : s.PoolKept)
    (ho : s.build = none) : imageChecked s.commitImage = true := by
  refine (imageChecked_iff _).2 ⟨h.globals, h.chans, fun p q hq => ?_, hp.commit⟩
  have notBuilding : s.patState[p] ≠ .building := fun e => by
    have := ((s.bindingsOk_iff.1 hb).building p).1 e
    rw [ho] at this
    cases this
  simp only [State.commitImage, getElem_ofFn_fin] at hq
  obtain ⟨notEmpty, hh, hs⟩ := patToImage_some hq
  have sound := (PatDef.shapeIn_defined ⟨notEmpty, notBuilding⟩).1 (h.shaped.shape p)
  refine ⟨?_, by rw [hh, hs]; exact sound.passed⟩
  simp only [PatImage.wf, hh, hs, Bool.and_eq_true, decide_eq_true_eq]
  exact ⟨⟨⟨sound.header, sound.some_⟩, sound.atMost⟩, sound.steps⟩

/-- R61: the take of a restore. -/
theorem restoreTake_configKept (x : Source) {s : State} (h : s.ConfigKept) : (restoreTake x s).ConfigKept where
  globals := h.globals
  chans := h.chans
  step t p hp := by simp [restoreTake, Tracker.pattern] at hp
  shape p := by
    have hd := h.shape p
    simp only [restoreTake, getElem_ofFn_fin] at hd ⊢
    split
    · next hb => rw [hb]; decide
    · next hb =>
      cases hs : s.patState[p] <;> rw [hs] at hd
      case building => exact absurd hs hb
      case active => exact PatDef.shapeIn_moved active_defined ready_defined hd
      all_goals exact hd
  images := State.allImages_of_bodies (State.allImages_iff.1 h.images).1 rfl

theorem shaped_ofTrackers (defs : Vector PatDef 24) (build : Option PatIdx) :
    OfTrackers fun w => w.Bound build ∧ w.Shaped defs :=
  fun w o u f h => ⟨bound_ofTrackers build w o u f h.1, h.2.shape, h.2.step⟩

/-- The three laws that go together. -/
abbrev State.TableOk (s : State) : Prop := (s.BindingsOk ∧ s.PoolKept) ∧ s.ConfigKept

theorem config_chanClosed : ChanClosed State.TableOk where
  plain | s, _, ht@(.mk ..), ⟨hp, a, b, c, d, e⟩ => ⟨pool_chanClosed.plain s _ ht hp, a, b, c, d, e⟩
  push s r | ⟨hp, a, b, c, d, e⟩ => ⟨pool_chanClosed.push s r hp, a, b, c, d, e⟩
  pops s | ⟨hp, a, b, c, d, e⟩ => ⟨pool_chanClosed.pops s hp, a, b, c, d, e⟩
  scanner s sc | ⟨hp, a, b, c, d, e⟩ => ⟨pool_chanClosed.scanner s sc hp, a, b, c, d, e⟩
  lives s live hl | ⟨hp, a, b, c, d, e⟩ => ⟨pool_chanClosed.lives s live hl hp, a, b, c, d, e⟩
  cfg s d x hx h := by
    refine ⟨pool_chanClosed.cfg s d x hx h.1, h.2.globals, fun e => ?_, h.2.shape, h.2.step, h.2.images⟩
    simp only [getElem_set_fin]
    split
    · exact hx
    · exact h.2.chans e
  turn s c r hr h := by
    have hw :=
        (shapedClosed s.env s.build).handAll (shaped_ofTrackers s.patDef s.build) s.chanCfg[c].report c r.2 s.recog
      ⟨s.bindingsOk_iff.1 h.1.1, h.2.shaped⟩
    exact ⟨pool_chanClosed.turn s c r hr h.1, h.2.globals, h.2.chans, hw.2.shape, hw.2.step, h.2.images⟩

theorem config_stepClosed : StepClosed State.TableOk State.TableOk := {
  config_chanClosed.scanClosed with
  weaken := fun _ h => h
  posts := fun s r d hf ⟨hp, h⟩ => ⟨pool_stepClosed.posts s r d hf hp, h.globals, h.chans, h.shape, h.step,
    State.allImages_of_bodies (State.allImages_iff.1 h.images).1 rfl⟩
  works := fun s f hf ⟨hp, h⟩ => by
    have hw := (shapedClosed s.env s.build).trackWork (s.bindingsOk_iff.1 hp.1) hf ⟨s.bindingsOk_iff.1 hp.1, h.shaped⟩
    exact ⟨pool_stepClosed.works s f hf hp, h.globals, h.chans, hw.2.shape, hw.2.step, h.images⟩
  clears := fun s ⟨hp, a, b, c, d, e⟩ => ⟨pool_stepClosed.clears s hp, a, b, c, d, e⟩
  pulseEnd := fun s o ⟨hp, a, b, c, d, e⟩ => ⟨pool_stepClosed.pulseEnd s o hp, a, b, c, d, e⟩
  outLevel := fun s l ⟨hp, a, b, c, d, e⟩ => ⟨pool_stepClosed.outLevel s l hp, a, b, c, d, e⟩
  writeGlobals := fun s g hg ⟨hp, _, b, c, d, e⟩ => ⟨pool_stepClosed.writeGlobals s g hg hp, hg, b, c, d, e⟩
  writeOutput := fun s o x ⟨hp, a, b, c, d, e⟩ => ⟨pool_stepClosed.writeOutput s o x hp, a, b, c, d, e⟩
  rise := fun s m h1 h2 ⟨hp, a, b, c, d, e⟩ => ⟨pool_stepClosed.rise s m h1 h2 hp, a, b, c, d, e⟩
  patterns := fun s t ht ⟨hp, h⟩ => ⟨pool_stepClosed.patterns s t ht hp, by
    have shaped := ht.shaped hp.1 h.shaped
    cases ht <;> exact ⟨h.globals, h.chans, shaped.shape, shaped.step, h.images⟩⟩
  stores := fun s t ht ⟨hp, h⟩ => ⟨pool_stepClosed.stores s t ht hp, by
    have images := ht.allImages factoryImage_checked (fun ho => h.commit hp.1 hp.2 ho) h.images
    cases ht <;> exact ⟨h.globals, h.chans, h.shape, h.step, images⟩⟩
  restoreTake := fun s x hf ⟨hp, h⟩ => ⟨pool_stepClosed.restoreTake s x hf hp, restoreTake_configKept x h⟩
  restoreEnd := fun s x hf ⟨hp, h⟩ => ⟨pool_stepClosed.restoreEnd s x hf hp, by
    obtain ⟨_, _, _, e⟩ := restoreEnd_frame x s
    have bodies := (State.allImages_iff.1 h.images).1
    rw [e]
    exact applyImage_configKept (s := s)
      (imageOf_of_bodies (P := fun i => imageChecked i = true) factoryImage_checked bodies x)
      (State.allImages_of_bodies bodies rfl) rfl rfl rfl rfl rfl⟩
  goDown := fun s done m hm ⟨hp, h⟩ => ⟨pool_stepClosed.goDown s done m hm hp, h.globals, h.chans,
    fun p => by simp [State.goDown, PatDef.shapeIn], fun t p ht => by simp [State.goDown, Tracker.pattern] at ht,
    goDown_allImages factoryImage_checked done m h.images⟩
  startUp := fun s cause low hm ⟨hp, h⟩ => ⟨pool_stepClosed.startUp s cause low hm hp, by
    obtain ⟨_, _, _, _, e⟩ := s.startUp_frame cause low
    rw [e]
    exact applyImage_configKept (s := s)
      (startImage_of_allImages (P := fun i => imageChecked i = true) factoryImage_checked h.images)
      (State.allImages_of_bodies (State.allImages_iff.1 h.images).1 rfl) rfl rfl rfl rfl rfl⟩ }

/-- Settles O12: every change that a step can make keeps the configuration checked, with bindings and pool
(`config_stepClosed`). -/
theorem everyStepKeepsTheConfigurationValid : Obligations.EveryStepKeepsTheConfigurationValid := fun s t hb hp hc ht =>
  t.configOk_iff.2 (config_stepClosed.step_keeps ⟨⟨hb, s.poolOk_iff.1 hp⟩, s.configOk_iff.1 hc⟩ ht).2

end Sys2Proof.Machine
end

section
/-! PROOF. Cascades (05_priority_claims_and_deferred_completion.md, section 5.4): each completion frees a slot, so six
completions are as deep as a cascade can go, and an ending or a completion is the removal of what ended from every
BLOCKERS set, with the turns of the trackers that this releases. -/

namespace Sys2Proof.Machine

/-! ## Slots in use -/

/-- The slots in use. -/
def Recog.used (w : Recog) : Finset SlotIdx := Finset.univ.filter fun t => w.trackers[t].pattern ≠ none

theorem Recog.mem_used {w : Recog} {t : SlotIdx} : t ∈ w.used ↔ w.trackers[t].pattern ≠ none := by
  simp [Recog.used]

/-- The number of slots in use. -/
def Recog.inUse (w : Recog) : Nat := w.used.card

theorem Recog.inUse_le (w : Recog) : w.inUse ≤ cascadeDepth := (Finset.card_le_univ _).trans_eq (by decide)

theorem Recog.inUse_mono {v w : Recog}
    (h : ∀ t : SlotIdx, v.trackers[t].pattern ≠ none → w.trackers[t].pattern ≠ none) :
    v.inUse ≤ w.inUse := Finset.card_le_card fun t ht => Recog.mem_used.2 (h t (Recog.mem_used.1 ht))

/-- A slot is freed. -/
theorem Recog.inUse_freed {v w : Recog} {t : SlotIdx} (ht : w.trackers[t].pattern ≠ none)
    (hv : v.trackers = w.trackers.set t .free) : v.inUse + 1 = w.inUse := by
  have : v.used = w.used.erase t := by
    ext u
    simp only [Recog.mem_used, Finset.mem_erase, hv, getElem_set_fin]
    by_cases e : t = u
    · simp [e, Tracker.pattern]
    · simp [e, Ne.symm e]
  rw [Recog.inUse, this]
  exact Finset.card_erase_add_one (Recog.mem_used.2 ht)

theorem Recog.pattern_none_of_inUse {w : Recog} (h : w.inUse = 0) (t : SlotIdx) : w.trackers[t].pattern = none := by
  by_contra ht
  have := Finset.card_eq_zero.1 h
  exact absurd (Recog.mem_used.2 ht) (this ▸ Finset.notMem_empty t)

/-- What an ending does to the slots. -/
theorem endSlot_trackers (e : Env) (t : SlotIdx) (reason : Reason) (time : Time) (st : PatState) (w : Recog) :
    (endSlot e t reason time st w).trackers = w.trackers.set t .free := by
  cases hp : w.trackers[t].pattern with
  | some p => exact (endSlot_bound hp).2
  | none =>
    rw [endSlot_free e t reason time st w hp]
    have : w.trackers[t] = .free := by cases ht : w.trackers[t] <;> simp_all [Tracker.pattern]
    rw [← this]
    simp

/-- R80, R94: no ending and no completion takes a slot. -/
theorem inUse_closed (e : Env) (n : Nat) : EndClosed e fun w => w.inUse ≤ n := by
  have freed {v w : Recog} {t : SlotIdx} (hv : v.trackers = w.trackers.set t .free) : v.inUse ≤ w.inUse := by
    refine Recog.inUse_mono fun u hu => ?_
    rw [hv, getElem_set_fin] at hu
    split at hu
    · exact absurd rfl hu
    · exact hu
  exact {
    ends := fun t reason time st w _ h => (freed (endSlot_trackers e t reason time st w)).trans h
    completes := fun t p te deferred time w _ h => by
      obtain ⟨_, -, ht⟩ := completeSlot_bound (e := e) (t := t) (p := p) (te := te) (deferred := deferred)
        (time := time) (w := w)
      exact (freed ht).trans h
    unblocks := fun gone w h => (Recog.inUse_mono fun t ht => by
      simpa only [getElem_ofFn_fin, unblock_pattern] using ht).trans h
    claims := fun _ _ h => h }

/-! ## Depth -/

theorem foldl_congr_keeps {α β : Type} {P : β → Prop} {f g : β → α → β} (l : List α) (b : β)
    (hf : ∀ b a, P b → f b a = g b a ∧ P (f b a)) (h : P b) : l.foldl f b = l.foldl g b := by
  induction l generalizing b with
  | nil => rfl
  | cons a l ih =>
    obtain ⟨he, hp⟩ := hf b a h
    rw [List.foldl_cons, List.foldl_cons, ih _ hp, he]

/-- R99: what ends or completes frees the way for others, each by `f` or by `g` where these agree. -/
theorem releaseBy_congr {e : Env} {P : Recog → Prop} {gone : PatSet} {f g : SlotIdx → Recog → Recog} {w : Recog}
    (hu : P { w with trackers := Vector.ofFn fun t => unblock gone w.trackers[t] })
    (hf : ∀ t v, P v → f t v = g t v ∧ P (f t v)) : releaseBy e gone f w = releaseBy e gone g w := by
  refine foldl_congr_keeps (P := P) _ _ (fun v t hv => ?_) hu
  split
  · exact hf t v hv
  · exact ⟨rfl, hv⟩

/-- R99: a released tracker takes its turn. -/
def finishAt (e : Env) (n : Nat) (time : Time) (t : SlotIdx) (w : Recog) : Recog :=
  complete e n t w.trackers[t].endTime true time w

/-- R94, R98: the patterns that end as the pattern `p` completes in slot `t`: `p` and those that its claim cancels; and
what is left once they have ended. -/
def completionEnds (e : Env) (t : SlotIdx) (p : PatIdx) (te : Time) (deferred : Bool) (time : Time) (w : Recog) :
    PatSet × Recog :=
  let w3 := completeSlot e t p te deferred time w
  let group := overlapping e (e.pat p).univ w3.trackers
  if (e.pat p).header.claim then
    (patternsOf w3.trackers group ||| patBit p,
      cancelGroup e group .superseded time { w3 with claimed := w3.claimed ||| (e.pat p).univ })
  else (patBit p, w3)

/-- R94, R99: a completion, but for the depth that is left for those that it releases. -/
theorem complete_succ {e : Env} {n : Nat} {t : SlotIdx} {p : PatIdx} {te : Time} {deferred : Bool} {time : Time}
    {w : Recog} (hp : w.trackers[t].pattern = some p) : complete e (n + 1) t te deferred time w =
      releaseBy e (completionEnds e t p te deferred time w).1 (finishAt e n time)
        (completionEnds e t p te deferred time w).2 := by
  simp only [complete, hp, completionEnds]
  split <;> rfl

theorem complete_free {e : Env} {n : Nat} {t : SlotIdx} {te : Time} {deferred : Bool} {time : Time} {w : Recog}
    (hp : w.trackers[t].pattern = none) : complete e n t te deferred time w = w := by
  cases n with
  | zero => rfl
  | succ n => simp only [complete, hp]

/-- R94: a completion frees its slot. -/
theorem completionEnds_inUse {e : Env} {t : SlotIdx} {p : PatIdx} {te : Time} {deferred : Bool} {time : Time}
    {w : Recog} (hp : w.trackers[t].pattern = some p) :
    (completionEnds e t p te deferred time w).2.inUse < w.inUse := by
  obtain ⟨_, -, ht⟩ := completeSlot_bound (e := e) (t := t) (p := p) (te := te) (deferred := deferred)
    (time := time) (w := w)
  have h1 := Recog.inUse_freed (by rw [hp]; nofun) ht
  unfold completionEnds
  dsimp only
  split
  · refine Nat.lt_of_le_of_lt ?_ (Nat.lt_of_succ_le (Nat.le_of_eq h1))
    exact (inUse_closed e _).cancelGroup _ _ _ _ (Nat.le_refl _)
  · exact Nat.lt_of_succ_le (Nat.le_of_eq h1)

/-- R99: a depth that covers the slots in use is deep enough. -/
theorem complete_depth {e : Env} {n : Nat} {t : SlotIdx} {te : Time} {deferred : Bool} {time : Time} {w : Recog}
    (h : w.inUse ≤ n) : complete e (n + 1) t te deferred time w = complete e n t te deferred time w := by
  induction n generalizing t te deferred w with
  | zero => rw [complete_free (w.pattern_none_of_inUse (Nat.le_zero.1 h) t)]; rfl
  | succ n ih =>
    cases hp : w.trackers[t].pattern with
    | none => rw [complete_free hp, complete_free hp]
    | some p =>
      rw [complete_succ hp, complete_succ hp]
      have base : (completionEnds e t p te deferred time w).2.inUse ≤ n :=
        Nat.le_of_lt_succ ((completionEnds_inUse hp).trans_le h)
      refine releaseBy_congr (P := fun v => v.inUse ≤ n) ((inUse_closed e n).unblocks _ _ base) fun u v hv => ⟨?_, ?_⟩
      · exact ih hv
      · exact (inUse_closed e n).complete _ _ _ _ _ v hv

theorem complete_deep {e : Env} {n : Nat} {t : SlotIdx} {te : Time} {deferred : Bool} {time : Time} {w : Recog}
    (h : w.inUse ≤ n) {m : Nat} (hm : n ≤ m) :
        complete e m t te deferred time w = complete e n t te deferred time w := by
  induction m, hm using Nat.le_induction with
  | base => rfl
  | succ m hm ih => rw [complete_depth (h.trans hm), ih]

/-- R99: a completion, each released tracker's own with the full depth again. -/
theorem complete_eq {e : Env} {t : SlotIdx} {p : PatIdx} {te : Time} {deferred : Bool} {time : Time} {w : Recog}
    (hp : w.trackers[t].pattern = some p) : complete e cascadeDepth t te deferred time w =
      releaseBy e (completionEnds e t p te deferred time w).1 (finishAt e cascadeDepth time)
        (completionEnds e t p te deferred time w).2 := by
  rw [← complete_succ hp, complete_depth w.inUse_le]

/-- R80: an ending. -/
theorem endTracker_eq {e : Env} {t : SlotIdx} {p : PatIdx} {reason : Reason} {time : Time} {st : PatState} {w : Recog}
    (hp : w.trackers[t].pattern = some p) : endTracker e t reason time st w =
      releaseBy e (patBit p) (finishAt e cascadeDepth time) (endSlot e t reason time st w) := by
  simp only [endTracker, hp]
  rfl

theorem finishAt_inUse {e : Env} {n m : Nat} {time : Time} {t : SlotIdx} {w : Recog} (h : w.inUse ≤ m) :
    (finishAt e n time t w).inUse ≤ m := (inUse_closed e m).complete _ _ _ _ _ w h

end Sys2Proof.Machine
end

section
/-! PROOF. O13: every PENDING tracker behind bound blockers of higher priority
(05_priority_claims_and_deferred_completion.md, section 5.1). While an ending or a completion is under way, BLOCKERS
sets still hold patterns that have ended, and released trackers with empty ones await their turns (`Recog.Blocked`). -/

namespace Sys2Proof.Machine

/-! ## Sets of patterns -/

theorem patSet_ext {a b : PatSet} (h : ∀ q : PatIdx, hasPat a q = hasPat b q) : a = b :=
  BitVec.eq_of_getLsbD_eq fun i hi => h ⟨i, hi⟩

theorem hasPat_zero (q : PatIdx) : hasPat 0 q = false := by simp [hasPat]

/-- A set of patterns gathered from slots. -/
theorem hasPat_foldl {f : PatSet → SlotIdx → PatSet} {R : SlotIdx → Prop} {q : PatIdx}
    (h : ∀ acc t, hasPat (f acc t) q = true ↔ hasPat acc q = true ∨ R t) (l : List SlotIdx) :
    hasPat (l.foldl f 0) q = true ↔ ∃ t ∈ l, R t := by
  have fold (acc : PatSet) : hasPat (l.foldl f acc) q = true ↔ hasPat acc q = true ∨ ∃ t ∈ l, R t := by
    induction l generalizing acc with
    | nil => simp
    | cons t l ih =>
      rw [List.foldl_cons, ih, h]
      simp only [List.exists_mem_cons_iff]
      tauto
  rw [fold, hasPat_zero]
  simp only [Bool.false_eq_true, false_or]

/-- R92: the blocker set of a pattern. -/
theorem hasPat_blockersOf (e : Env) (p q : PatIdx) (trackers : Vector Tracker 6) :
    hasPat (blockersOf e p trackers) q = true ↔
      e.prio p < e.prio q ∧ overlaps (e.pat q).univ (e.pat p).univ = true
        ∧ ∃ t : SlotIdx, trackers[t].pattern = some q := by
  refine (hasPat_foldl (R := fun t => e.prio p < e.prio q ∧ overlaps (e.pat q).univ (e.pat p).univ = true
    ∧ trackers[t].pattern = some q) (fun acc t => ?_) allSlots).trans ?_
  · cases trackers[t].pattern with
    | none => simp
    | some r =>
      simp only [Option.some.injEq]
      by_cases hqr : r = q
      · subst hqr
        split
        · next hc => simp only [Bool.and_eq_true, decide_eq_true_eq] at hc; simp [hasPat_or, hasPat_patBit, hc]
        · next hc => simp only [Bool.and_eq_true, decide_eq_true_eq] at hc; tauto
      · split <;> simp [hasPat_or, hasPat_patBit, hqr]
  · simp [allSlots]

/-- R98: the patterns bound to the slots of a group. -/
theorem hasPat_patternsOf (trackers : Vector Tracker 6) (group : List SlotIdx) (q : PatIdx) :
    hasPat (patternsOf trackers group) q = true ↔ ∃ t ∈ group, trackers[t].pattern = some q := by
  refine hasPat_foldl (fun acc t => ?_) group
  cases trackers[t].pattern with
  | none => simp
  | some r => simp [hasPat_or, hasPat_patBit]

/-! ## Slots freed together -/

/-- R97: a group's slots are free once its members are cancelled. -/
theorem cancelGroup_trackers (e : Env) (group : List SlotIdx) (reason : Reason) (time : Time) (w : Recog)
    (u : SlotIdx) :
    (cancelGroup e group reason time w).trackers[u] = if u ∈ group then .free else w.trackers[u] := by
  unfold cancelGroup
  induction group generalizing w with
  | nil => simp
  | cons t l ih =>
    simp only [List.foldl_cons, ih, endSlot_trackers, getElem_set_fin, List.mem_cons]
    by_cases h1 : u ∈ l
    · simp [h1]
    · by_cases h2 : t = u
      · simp [h1, h2]
      · simp [h1, h2, Ne.symm h2]

theorem completeSlot_trackers (e : Env) (t : SlotIdx) (p : PatIdx) (te : Time) (deferred : Bool) (time : Time)
    (w : Recog) : (completeSlot e t p te deferred time w).trackers = w.trackers.set t .free :=
  (completeSlot_bound (e := e)).choose_spec.2

/-- R98: the slots whose trackers the completion of `p` in slot `t` cancels by its claim. -/
def claimGroup (e : Env) (t : SlotIdx) (p : PatIdx) (w : Recog) : List SlotIdx :=
  if (e.pat p).header.claim then overlapping e (e.pat p).univ (w.trackers.set t .free) else []

theorem completionEnds_gone (e : Env) (t : SlotIdx) (p : PatIdx) (te : Time) (deferred : Bool) (time : Time)
    (w : Recog) : (completionEnds e t p te deferred time w).1 =
      patternsOf (w.trackers.set t .free) (claimGroup e t p w) ||| patBit p := by
  simp only [completionEnds, claimGroup, completeSlot_trackers]
  split
  · rfl
  · simp [patternsOf]

/-- R94, R98: a completion and its claim free the completing slot and those of the group. -/
theorem completionEnds_trackers (e : Env) (t : SlotIdx) (p : PatIdx) (te : Time) (deferred : Bool) (time : Time)
    (w : Recog) (u : SlotIdx) : (completionEnds e t p te deferred time w).2.trackers[u] =
      if u = t ∨ u ∈ claimGroup e t p w then .free else w.trackers[u] := by
  have one : (completeSlot e t p te deferred time w).trackers[u] = if t = u then .free else w.trackers[u] := by
    simp only [completeSlot_trackers, getElem_set_fin]
  unfold completionEnds claimGroup
  dsimp only
  split
  · simp only [cancelGroup_trackers, completeSlot_trackers, getElem_set_fin]
    by_cases hg : u ∈ overlapping e (e.pat p).univ (w.trackers.set t .free)
    · simp only [hg, or_true, if_true]
    · simp only [hg, or_false, if_false, eq_comm]
  · simp only [one, List.not_mem_nil, or_false, eq_comm]

/-! ## The law inside a cascade -/

/-- R93: every PENDING tracker's blockers, but for those that have just ended (`gone`), are bound patterns of strictly
higher priority that overlap its own; and it has blockers unless it awaits its turn. -/
def Recog.Blocked (e : Env) (awaits : SlotIdx → Prop) (gone : PatSet) (w : Recog) : Prop :=
  ∀ (t : SlotIdx) (x : Pending), w.trackers[t] = .pending x → (x.blockers ≠ 0 ∨ awaits t)
    ∧ ∀ q : PatIdx, hasPat x.blockers q = true → hasPat gone q = false →
      e.prio x.pattern < e.prio q ∧ overlaps (e.pat q).univ (e.pat x.pattern).univ = true
        ∧ ∃ u : SlotIdx, w.trackers[u].pattern = some q

namespace Recog.Blocked

variable {e : Env} {awaits : SlotIdx → Prop} {gone : PatSet} {w v : Recog}

theorem mono {awaits' : SlotIdx → Prop} (h : w.Blocked e awaits gone) (ha : ∀ t x, w.trackers[t] = .pending x →
    awaits t → x.blockers ≠ 0 ∨ awaits' t) : w.Blocked e awaits' gone := fun t x hx =>
  ⟨(h t x hx).1.elim .inl (ha t x hx), (h t x hx).2⟩

/-- The slots that `ends` picks are freed, and with them go their patterns. -/
theorem freed {ends : SlotIdx → Prop} {gone' : PatSet} (h : w.Blocked e (fun t => awaits t ∨ ends t) gone)
    (hv : ∀ t, ends t ∧ v.trackers[t] = .free ∨ ¬ ends t ∧ v.trackers[t] = w.trackers[t])
    (hg : ∀ q, hasPat gone' q = false → hasPat gone q = false ∧ ∀ t, ends t → w.trackers[t].pattern ≠ some q) :
    v.Blocked e awaits gone' := by
  intro t x hx
  obtain ⟨hne, hw⟩ : ¬ ends t ∧ w.trackers[t] = .pending x := by
    rcases hv t with ⟨-, e⟩ | ⟨hn, e⟩
    · rw [e] at hx; cases hx
    · exact ⟨hn, e ▸ hx⟩
  obtain ⟨h1, h2⟩ := h t x hw
  refine ⟨h1.imp_right fun h => h.resolve_right hne, fun q hq hgq => ?_⟩
  obtain ⟨hgq, hends⟩ := hg q hgq
  obtain ⟨hprio, hover, u, hu⟩ := h2 q hq hgq
  refine ⟨hprio, hover, u, ?_⟩
  rcases hv u with ⟨he, -⟩ | ⟨-, e⟩
  · exact absurd hu (hends u he)
  · rw [e, hu]

/-- R99: what has ended is removed from every BLOCKERS set; the trackers that this releases await their turns. -/
theorem unblocked (h : w.Blocked e awaits gone) :
    Recog.Blocked e (fun t => awaits t ∨ t ∈ (slotOrder e w.trackers).filter fun t => isReleasedBy gone w.trackers[t]) 0
      { w with trackers := Vector.ofFn fun t => unblock gone w.trackers[t] } := by
  intro t x hx
  simp only [getElem_ofFn_fin] at hx
  cases hw : w.trackers[t] with
  | free => rw [hw] at hx; cases hx
  | waiting y => rw [hw] at hx; cases hx
  | pending y =>
    rw [hw] at hx
    cases hx
    obtain ⟨h1, h2⟩ := h t y hw
    refine ⟨?_, fun q hq _ => ?_⟩
    · by_cases hz : y.blockers &&& ~~~gone = 0
      · refine .inr (h1.symm.imp_right fun hne => List.mem_filter.2 ⟨(mem_slotOrder ..).2 (by rw [hw]; nofun), ?_⟩)
        simp only [hw, isReleasedBy, hz, BEq.rfl, Bool.and_true]
        exact bne_iff_ne.2 hne
      · exact .inl hz
    · simp only [hasPat_sdiff, Bool.and_eq_true, Bool.not_eq_true'] at hq
      obtain ⟨hprio, hover, u, hu⟩ := h2 q hq.1 hq.2
      exact ⟨hprio, hover, u, by simp only [getElem_ofFn_fin, unblock_pattern, hu]⟩

/-- R99: with the turns of the released trackers, each of which keeps the law but for those that still await theirs. -/
theorem releaseBy {n : Nat} {time : Time} (h : w.Blocked e awaits gone) (hn : w.inUse ≤ n)
    (ih : ∀ (v : Recog) (t : SlotIdx) (awaits : SlotIdx → Prop), v.inUse ≤ n →
      v.Blocked e (fun u => awaits u ∨ u = t) 0 → (finishAt e cascadeDepth time t v).Blocked e awaits 0) :
    (releaseBy e gone (finishAt e cascadeDepth time) w).Blocked e awaits 0 := by
  have turns (l : List SlotIdx) (v : Recog) (hv : v.inUse ≤ n)
      (h : v.Blocked e (fun t => awaits t ∨ t ∈ l) 0) :
      (l.foldl (fun v t => if awaitsTurn v.trackers[t] then finishAt e cascadeDepth time t v else v) v).Blocked e
        awaits 0 := by
    induction l generalizing v with
    | nil => exact h.mono fun t x _ ha => .inr (ha.resolve_right List.not_mem_nil)
    | cons t l ihl =>
      rw [List.foldl_cons]
      split
      · refine ihl _ (finishAt_inUse hv) (ih v t _ hv (h.mono fun u x _ hu => .inr ?_))
        simp only [List.mem_cons] at hu
        tauto
      · next hw =>
        refine ihl _ hv (h.mono fun u x hx hu => ?_)
        by_cases hut : u = t
        · subst hut
          rw [hx] at hw
          exact .inl (by simpa [awaitsTurn] using hw)
        · simp only [List.mem_cons, hut, false_or] at hu
          exact .inr hu
  exact turns _ _ ((inUse_closed e n).unblocks gone w hn) h.unblocked

/-- R94: what a completion's own ending leaves. -/
theorem completionEnds {t : SlotIdx} {p : PatIdx} {te : Time} {deferred : Bool} {time : Time}
    (h : w.Blocked e (fun u => awaits u ∨ u = t) 0) (hp : w.trackers[t].pattern = some p) :
    (completionEnds e t p te deferred time w).2.Blocked e awaits (completionEnds e t p te deferred time w).1 := by
  refine freed (w := w) (gone := 0) (ends := fun u => u = t ∨ u ∈ claimGroup e t p w)
    (h.mono fun u x _ hu => .inr (by tauto)) (fun u => ?_) fun q hq => ⟨hasPat_zero q, fun u hu hup => ?_⟩
  · rw [completionEnds_trackers]
    by_cases hu : u = t ∨ u ∈ claimGroup e t p w
    · exact .inl ⟨hu, if_pos hu⟩
    · exact .inr ⟨hu, if_neg hu⟩
  · rw [completionEnds_gone, hasPat_or, Bool.or_eq_false_iff, hasPat_patBit, decide_eq_false_iff_not] at hq
    by_cases hut : u = t
    · exact hq.2 (Option.some.inj (hp.symm.trans (hut ▸ hup)))
    · have := (hasPat_patternsOf (w.trackers.set t .free) (claimGroup e t p w) q).2
        ⟨u, hu.resolve_left hut, by simp only [getElem_set_fin, if_neg (Ne.symm hut), hup]⟩
      rw [hq.1] at this
      cases this

/-- R94, R99: a whole completion. -/
theorem complete {n : Nat} {t : SlotIdx} {te : Time} {deferred : Bool} {time : Time} (hn : w.inUse ≤ n)
    (h : w.Blocked e (fun u => awaits u ∨ u = t) 0) :
    (complete e cascadeDepth t te deferred time w).Blocked e awaits 0 := by
  induction n generalizing w t te deferred awaits with
  | zero =>
    have none := w.pattern_none_of_inUse (Nat.le_zero.1 hn)
    rw [complete_free (none t)]
    intro u x hx
    have := none u
    rw [hx] at this
    cases this
  | succ n ih =>
    cases hp : w.trackers[t].pattern with
    | none =>
      rw [complete_free hp]
      refine h.mono fun u x hx hu => .inr (hu.resolve_right fun e => ?_)
      rw [← e, hx] at hp
      cases hp
    | some p =>
      rw [complete_eq hp]
      refine (h.completionEnds hp).releaseBy (Nat.le_of_lt_succ ((completionEnds_inUse hp).trans_le hn)) ?_
      exact fun v u awaits hv h => ih hv h

/-- R99: an ending's or a group's removal, with the turns that follow. -/
theorem releaseAll {time : Time} (h : w.Blocked e awaits gone) :
    (Machine.releaseBy e gone (finishAt e cascadeDepth time) w).Blocked e awaits 0 :=
  h.releaseBy w.inUse_le fun _ _ _ hv h => h.complete hv

/-- R80: a whole ending. -/
theorem endTracker {t : SlotIdx} {reason : Reason} {time : Time} {st : PatState} (h : w.Blocked e awaits 0) :
    (endTracker e t reason time st w).Blocked e awaits 0 := by
  cases hp : w.trackers[t].pattern with
  | none => simpa only [Machine.endTracker, hp] using h
  | some p =>
    rw [endTracker_eq hp]
    refine releaseAll (freed (w := w) (gone := 0) (ends := fun u => u = t) (h.mono fun _ _ _ ha => .inr (.inl ha))
      (fun u => ?_) fun q hq => ⟨hasPat_zero q, fun u hu hup => ?_⟩)
    · simp only [endSlot_trackers, getElem_set_fin]
      by_cases htu : t = u
      · exact .inl ⟨htu.symm, if_pos htu⟩
      · exact .inr ⟨fun h => htu h.symm, if_neg htu⟩
    · subst hu
      rw [hp] at hup
      rw [hasPat_patBit] at hq
      exact absurd (Option.some.inj hup) (by simpa using hq)

/-- The law reads the slots alone. -/
theorem of_trackers (h : w.Blocked e awaits gone) (hv : v.trackers = w.trackers) : v.Blocked e awaits gone := by
  unfold Recog.Blocked
  rw [hv]
  exact h

/-- A slot takes a record, with the pattern bound to it kept: of a PENDING record the law must hold. -/
theorem setTracker {t : SlotIdx} {y : Tracker} (h : w.Blocked e awaits gone)
    (hp : w.trackers[t].pattern = none ∨ y.pattern = w.trackers[t].pattern)
    (hy : ∀ x, y = .pending x → (x.blockers ≠ 0 ∨ awaits t) ∧ ∀ q : PatIdx, hasPat x.blockers q = true →
      hasPat gone q = false → e.prio x.pattern < e.prio q ∧ overlaps (e.pat q).univ (e.pat x.pattern).univ = true
        ∧ ∃ u : SlotIdx, w.trackers[u].pattern = some q) :
    (w.setTracker t y).Blocked e awaits gone := by
  have still {q : PatIdx} (hq : ∃ u : SlotIdx, w.trackers[u].pattern = some q) :
      ∃ u : SlotIdx, (w.setTracker t y).trackers[u].pattern = some q := by
    obtain ⟨u, hu⟩ := hq
    refine ⟨u, ?_⟩
    simp only [Recog.setTracker_trackers, getElem_set_fin]
    split
    · next e =>
      subst e
      rcases hp with hn | hs
      · rw [hn] at hu; cases hu
      · rw [hs, hu]
    · exact hu
  have each {x : Pending} {u : SlotIdx} (hx : (x.blockers ≠ 0 ∨ awaits u) ∧ ∀ q : PatIdx, hasPat x.blockers q = true →
      hasPat gone q = false → e.prio x.pattern < e.prio q ∧ overlaps (e.pat q).univ (e.pat x.pattern).univ = true
        ∧ ∃ u : SlotIdx, w.trackers[u].pattern = some q) := And.intro hx.1 fun q hq hg =>
    let ⟨h1, h2, h3⟩ := hx.2 q hq hg
    And.intro h1 (And.intro h2 (still h3))
  intro u x hx
  simp only [Recog.setTracker_trackers, getElem_set_fin] at hx
  split at hx
  · next e => subst e; exact each (hy x hx)
  · exact each (h u x hx)

/-- R108: a flush. -/
theorem flushWork (h : w.Blocked e awaits 0) : (flushWork e w).Blocked e awaits 0 := by
  have pendings : (cancelGroup e (allSlots.filter fun t => w.trackers[t].isPending) .cancelled e.now w).Blocked e awaits
      (patternsOf w.trackers (allSlots.filter fun t => w.trackers[t].isPending)) := by
    refine freed (w := w) (gone := 0) (ends := fun u => u ∈ allSlots.filter fun t => w.trackers[t].isPending)
      (h.mono fun _ _ _ ha => .inr (.inl ha)) (fun u => ?_) fun q hq => ⟨hasPat_zero q, fun u hu hup => ?_⟩
    · rw [cancelGroup_trackers]
      by_cases hu : u ∈ allSlots.filter fun t => w.trackers[t].isPending
      · exact .inl ⟨hu, if_pos hu⟩
      · exact .inr ⟨hu, if_neg hu⟩
    · rw [(hasPat_patternsOf ..).2 ⟨u, hu, hup⟩] at hq
      cases hq
  refine foldl_keeps (P := fun v : Recog => v.Blocked e awaits 0) _ (fun v t hv => ?_) _ _ pendings.releaseAll
  split
  · exact hv.endTracker
  · exact hv

end Recog.Blocked

/-! ## The law outside -/

/-- R93 of the changeable state, outside any cascade. -/
def Recog.PendingBlocked (e : Env) (w : Recog) : Prop := w.Blocked e (fun _ => False) 0

theorem State.pendingOk_iff (s : State) : s.PendingOk ↔ s.recog.PendingBlocked s.env := by
  constructor
  · intro h t x hx
    obtain ⟨h1, h2⟩ := h t x (by rw [show s.trackers[t] = .pending x from hx]; rfl)
    exact ⟨.inl h1, fun q hq _ => h2 q hq⟩
  · intro h t x hx
    have ht : s.trackers[t] = .pending x := by
      cases ht : s.trackers[t] <;> rw [ht] at hx <;> cases hx
      rfl
    obtain ⟨h1, h2⟩ := h t x ht
    exact ⟨h1.resolve_right id, fun q hq => h2 q hq (hasPat_zero q)⟩

theorem pendingWork (e : Env) : WorkClosed e (Recog.PendingBlocked e) where
  ends _ _ _ _ _ _ h := Recog.Blocked.endTracker h
  completes t te w h := Recog.Blocked.complete w.inUse_le (Recog.Blocked.mono h fun _ _ _ ha => .inr (.inl ha))
  moves t x y w hx hm h := Recog.Blocked.setTracker h (.inr (by rw [hx]; exact congrArg some hm.pattern)) nofun
  pends t x te w hx hb h := Recog.Blocked.setTracker h (.inr (by rw [hx]; rfl)) fun y hy => by
    cases hy
    exact ⟨.inl hb, fun q hq _ => (hasPat_blockersOf ..).1 hq⟩
  starts t p time w w0 ht h _ _ _ :=
    (Recog.Blocked.setTracker (y := .waiting (newWaiting (e.pat p) p time)) h
      (.inl (by rw [ht]; rfl)) nofun).of_trackers (v := (w.setTracker t _).setPat p .active) rfl
  refuses p time w h := Recog.Blocked.of_trackers h (by
    unfold refuseStart; cases (e.pat p).header.reportAbort <;> rfl)

theorem pendingMatch {e : Env} {ev : Event} {w : Recog} (h : w.PendingBlocked e) :
    (matchEvent e ev w).PendingBlocked e := by
  refine (pendingWork e).matchEvent (Recog.Blocked.of_trackers ?_ (stage2_trackers ..))
  exact (pendingWork e).stage1 (Recog.Blocked.of_trackers h rfl)

/-- The law of the pattern table is that of the definitions of the bound patterns. -/
theorem Recog.PendingBlocked.redefined {e e' : Env} {w : Recog} (h : w.PendingBlocked e)
    (hd : ∀ (p : PatIdx) (t : SlotIdx), w.trackers[t].pattern = some p → e'.pat p = e.pat p) : w.PendingBlocked e' := by
  intro t x hx
  obtain ⟨h1, h2⟩ := h t x hx
  refine ⟨h1, fun q hq hg => ?_⟩
  obtain ⟨h3, h4, u, hu⟩ := h2 q hq hg
  have own := hd x.pattern t (by rw [hx]; rfl)
  have its := hd q u hu
  exact ⟨by rw [Env.prio, Env.prio, own, its]; exact h3, by rw [own, its]; exact h4, u, hu⟩

/-- R48 to R57: the commands of the pattern table leave the definitions of bound patterns alone. -/
theorem PatChange.bound_defs {s t : State} (ht : PatChange s t) (hb : s.BindingsOk) (p : PatIdx) (u : SlotIdx)
    (hu : s.trackers[u].pattern = some p) : t.patDef[p] = s.patDef[p] := by
  obtain ⟨active, -, building⟩ := hb
  have act := (active p).2 ⟨u, hu⟩
  have other {q : PatIdx} {d : PatDef} (hq : s.patState[q] ≠ .active) : (s.patDef.set q d)[p] = s.patDef[p] := by
    rw [getElem_set_fin, if_neg]
    rintro rfl
    exact hq act
  cases ht with
  | begins q h _ hst _ => exact other (by rw [hst]; nofun)
  | appends q x hq _ _ _ => exact other (by rw [(building q).2 hq]; nofun)
  | ends q hq _ => exact other (by rw [(building q).2 hq]; nofun)
  | abandons q hq => exact other (by rw [(building q).2 hq]; nofun)
  | revises q h hst _ _ _ => exact other (by rw [hst]; nofun)
  | deletes q hst => exact other (by rw [hst]; nofun)
  | moves q st _ _ => rfl

/-- With no tracker in use none is PENDING. -/
theorem pendingOk_of_free {s : State} (h : ∀ t : SlotIdx, s.trackers[t] = .free) : s.PendingOk := fun t x hx => by
  rw [h t] at hx; cases hx

theorem PatChange.trackers {s t : State} (ht : PatChange s t) : t.trackers = s.trackers := by cases ht <;> rfl

/-- Settles O13: what the matcher does between endings keeps PENDING trackers blocked, and releases take the ended
patterns out of the BLOCKERS sets. -/
theorem everyStepKeepsPendingTrackersBlocked : Obligations.EveryStepKeepsPendingTrackersBlocked := by
  have put {s : State} {w : Recog} (h : w.PendingBlocked s.env) : (s.putRecog w).PendingOk :=
    (State.pendingOk_iff _).2 (Recog.Blocked.of_trackers h rfl)
  have chans : ChanClosed fun s => s.BindingsOk ∧ s.PendingOk := {
    plain := fun | _, _, .mk .., h => h
    push := fun _ _ h => h, pops := fun _ h => h, scanner := fun _ _ h => h, lives := fun _ _ _ h => h
    cfg := fun _ _ _ _ h => h
    turn := fun s c r hr ⟨hb, h⟩ => ⟨bindings_chanClosed.turn s c r hr hb, by
      exact put (s := s.setLive c r.1) (handAll_keeps (fun _ _ => pendingMatch)
        (fun _ _ _ _ h => Recog.Blocked.of_trackers h rfl) _ _ _ _ (s.pendingOk_iff.1 h))⟩ }
  have closed : StepClosed (fun s => s.BindingsOk ∧ s.PendingOk) fun s => s.BindingsOk ∧ s.PendingOk := {
    chans.scanClosed with
    weaken := fun _ h => h, posts := fun _ _ _ _ h => h, clears := fun _ h => h, pulseEnd := fun _ _ h => h
    outLevel := fun _ _ h => h, writeGlobals := fun _ _ _ h => h, writeOutput := fun _ _ _ h => h
    rise := fun _ _ _ _ h => h
    works := fun s f hf ⟨hb, h⟩ => ⟨bindings_stepClosed.works s f hf hb,
      put ((pendingWork s.env).trackWork (fun _ => Recog.Blocked.flushWork) (s.bindingsOk_iff.1 hb) hf
        (s.pendingOk_iff.1 h))⟩
    patterns := fun s t ht ⟨hb, h⟩ => ⟨bindings_stepClosed.patterns s t ht hb, t.pendingOk_iff.2 (by
      refine Recog.Blocked.of_trackers (w := s.recog) ?_ ht.trackers
      exact (s.pendingOk_iff.1 h).redefined fun p u hu => ht.bound_defs hb p u hu)⟩
    stores := fun s t ht ⟨hb, h⟩ => ⟨bindings_stepClosed.stores s t ht hb, by cases ht <;> exact h⟩
    restoreTake := fun s x hf ⟨hb, _⟩ => ⟨bindings_stepClosed.restoreTake s x hf hb,
      pendingOk_of_free fun t => by simp [restoreTake]⟩
    restoreEnd := fun s x hf ⟨hb, _⟩ => ⟨bindings_stepClosed.restoreEnd s x hf hb, by
      obtain ⟨_, _, _, e⟩ := restoreEnd_frame x s
      rw [e]
      exact pendingOk_of_free fun t => by simp [State.applyImage, State.postOk]⟩
    goDown := fun s done m hm ⟨hb, _⟩ => ⟨bindings_stepClosed.goDown s done m hm hb,
      pendingOk_of_free fun t => by simp [State.goDown]⟩
    startUp := fun s cause low hm ⟨hb, _⟩ => ⟨bindings_stepClosed.startUp s cause low hm hb, by
      obtain ⟨_, _, _, _, e⟩ := s.startUp_frame cause low
      rw [e]
      exact pendingOk_of_free fun t => by simp [State.applyImage]⟩ }
  exact fun s t hb h ht => (closed.step_keeps ⟨hb, h⟩ ht).2

end Sys2Proof.Machine
end

section
/-! PROOF. O47: how deep a cascade goes, and in which order the trackers that an ending releases complete
(05_priority_claims_and_deferred_completion.md, section 5.4). -/

namespace Sys2Proof.Machine

/-! ## What an ending leaves of the slots -/

theorem slotsAfter_get (trackers : Vector Tracker 6) (ends : SlotIdx → Bool) (gone : PatSet) (u : SlotIdx) :
    (slotsAfter trackers ends gone)[u] = if ends u = true then .free else unblock gone trackers[u] := by
  simp only [slotsAfter, getElem_ofFn_fin]
  cases trackers[u] <;> rfl

theorem Tracker.eq_pending {x : Tracker} {y : Pending} (h : y ∈ x.pending?) : x = .pending y := by
  cases x <;> cases h
  rfl

theorem slots_ext {v w : Vector Tracker 6} (h : ∀ u : SlotIdx, v[u] = w[u]) : v = w :=
  Vector.ext fun i hi => h ⟨i, hi⟩

theorem blockers_without {b : PatSet} {p : PatIdx} (h : hasPat b p = false) : b &&& ~~~patBit p = b :=
  patSet_ext fun q => by
    rw [hasPat_sdiff, hasPat_patBit]
    by_cases hq : p = q
    · rw [← hq, h]; rfl
    · simp [hq]

/-- R99: the end of a pattern that a tracker does not have among its blockers leaves the tracker as it was. -/
theorem unblock_without {x : Tracker} {p : PatIdx} (h : ∀ y, x = .pending y → hasPat y.blockers p = false) :
    unblock (patBit p) x = x := by
  cases x with
  | free => rfl
  | waiting y => rfl
  | pending y => rw [unblock, blockers_without (h y rfl)]

/-- R99: an ending whose pattern no other tracker has among its blockers frees its slot and changes no other. -/
theorem slotsAfter_unblocked {trackers : Vector Tracker 6} {t : SlotIdx} {p : PatIdx}
    (h : ∀ (v : SlotIdx) (y : Pending), v ≠ t → trackers[v] = .pending y → hasPat y.blockers p = false) :
    slotsAfter trackers (fun u => u == t) (patBit p) = trackers.set t .free := by
  refine slots_ext fun u => ?_
  rw [slotsAfter_get, getElem_set_fin]
  by_cases hu : u = t
  · simp [hu]
  · rw [if_neg (by simpa using hu), if_neg (Ne.symm hu), unblock_without fun y => h u y hu]

/-! ## Turns -/

/-- R99: the released trackers take their turns one after another. -/
theorem foldl_turns (e : Env) (time : Time) (order : List SlotIdx) (w : Recog) :
    order.foldl (fun v t => if awaitsTurn v.trackers[t] then finishAt e cascadeDepth time t v else v) w
      = takeTurns e time order w := by
  unfold takeTurns
  congr 1
  funext v t
  unfold finishAt
  cases hx : v.trackers[t] with
  | free => rfl
  | waiting x => rfl
  | pending x =>
    simp only [awaitsTurn, beq_iff_eq, Tracker.endTime]
    rfl

/-- R99: with the slots that `ends` picks freed, the trackers that the removal of `gone` releases take their turns in
the order that `Env.Releases` gives. -/
theorem releaseBy_eq_takeTurns {e : Env} {time : Time} {w v : Recog} {ends : SlotIdx → Bool} {gone : PatSet}
    {order : List SlotIdx} (hv : ∀ u : SlotIdx, v.trackers[u] = if ends u = true then .free else w.trackers[u])
    (hr : e.Releases w.trackers ends gone order) :
    releaseBy e gone (finishAt e cascadeDepth time) v =
      takeTurns e time order { v with trackers := slotsAfter w.trackers ends gone } := by
  obtain ⟨mem, ordered⟩ := hr
  have here {u : SlotIdx} (hu : u ∈ order) : v.trackers[u] = w.trackers[u] := by
    rw [hv, if_neg (by rw [((mem u).1 hu).1]; nofun)]
  have released : (slotOrder e v.trackers).filter (fun t => isReleasedBy gone v.trackers[t]) = order := by
    refine filter_slotOrder (fun u => (mem u).trans ?_) (ordered.imp_of_mem fun {t u} ht hu => ?_)
    · rw [hv u]
      cases ends u with
      | true => simp [Tracker.pattern]
      | false => cases hw : w.trackers[u] <;> simp [Tracker.pending?, Tracker.pattern, isReleasedBy]
    · unfold Env.SlotBefore
      rw [here ht, here hu]
      exact id
  have after : (Vector.ofFn fun t => unblock gone v.trackers[t]) = slotsAfter w.trackers ends gone := by
    refine slots_ext fun u => ?_
    rw [getElem_ofFn_fin, slotsAfter_get, hv u]
    cases ends u <;> rfl
  rw [← foldl_turns, ← after, ← released]
  rfl

/-- R80, R81: the record that an ending offers. -/
theorem abortRecord_bound {e : Env} {trackers : Vector Tracker 6} {reason : Reason} {time : Time} {t : SlotIdx}
    {p : PatIdx} (hp : trackers[t].pattern = some p) : e.abortRecord trackers reason time t =
      if (e.pat p).header.reportAbort = true then
        some (.aborted p (e.pat p).header.tag trackers[t].step reason (shortTime time)) else none := by
  simp only [Env.abortRecord, hp]
  rfl

/-- R80: an ending up to its cascade. -/
theorem endSlot_eq {e : Env} {t : SlotIdx} {reason : Reason} {time : Time} {st : PatState} {w : Recog} {p : PatIdx}
    (hp : w.trackers[t].pattern = some p) : endSlot e t reason time st w = { w with
      offers := w.offers ++ (e.abortRecord w.trackers reason time t).toList
      trackers := w.trackers.set t .free, pstate := w.pstate.set p st, ended := w.ended ||| patBit p } := by
  rw [abortRecord_bound hp]
  simp only [endSlot, hp]
  cases (e.pat p).header.reportAbort
  · simp [Recog.offerIf, Recog.setPat, Recog.setTracker]
  · simp [Recog.offerIf, Recog.setPat, Recog.setTracker, Recog.offer]

/-- R80, R99 to R101: a whole ending. -/
theorem endTracker_takeTurns {e : Env} {t : SlotIdx} {reason : Reason} {time : Time} {st : PatState} {w : Recog}
    {p : PatIdx} {order : List SlotIdx} (hp : w.trackers[t].pattern = some p)
    (hr : e.Releases w.trackers (fun u => u == t) (patBit p) order) :
    endTracker e t reason time st w = takeTurns e time order { w with
      offers := w.offers ++ (e.abortRecord w.trackers reason time t).toList
      trackers := slotsAfter w.trackers (fun u => u == t) (patBit p)
      pstate := w.pstate.set p st, ended := w.ended ||| patBit p } := by
  rw [endTracker_eq hp, endSlot_eq hp]
  refine releaseBy_eq_takeTurns (w := w) (fun u => ?_) hr
  rw [getElem_set_fin]
  by_cases hu : t = u
  · simp [hu]
  · simp [hu, Ne.symm hu]

theorem takeTurns_nil (e : Env) (time : Time) (w : Recog) : takeTurns e time [] w = w := rfl

/-- R99 to R101: one released tracker. -/
theorem takeTurns_one {e : Env} {time : Time} {u : SlotIdx} {w : Recog} {x : Pending} (hx : w.trackers[u] = .pending x)
    (hb : x.blockers = 0) : takeTurns e time [u] w = complete e cascadeDepth u x.endTime true time w := by
  simp only [takeTurns, List.foldl_cons, List.foldl_nil, hx, hb, if_true, cascadeDepth]

theorem Env.releases_none {e : Env} {trackers : Vector Tracker 6} {t : SlotIdx} {p : PatIdx}
    (h : ∀ (v : SlotIdx) (y : Pending), v ≠ t → trackers[v] = .pending y → hasPat y.blockers p = false) :
    e.Releases trackers (fun u => u == t) (patBit p) [] := by
  refine ⟨fun u => iff_of_false List.not_mem_nil ?_, List.Pairwise.nil⟩
  rintro ⟨hu, x, hx, hne, he⟩
  refine hne ?_
  rwa [blockers_without (h u x (by simpa using hu) (Tracker.eq_pending hx))] at he

/-- R80, R99: an ending whose pattern no other tracker has among its blockers. -/
theorem endTracker_alone {e : Env} {t : SlotIdx} {reason : Reason} {time : Time} {st : PatState} {w : Recog}
    {p : PatIdx} (hp : w.trackers[t].pattern = some p)
    (h : ∀ (v : SlotIdx) (y : Pending), v ≠ t → w.trackers[v] = .pending y → hasPat y.blockers p = false) :
    endTracker e t reason time st w = { w with
      offers := w.offers ++ (e.abortRecord w.trackers reason time t).toList
      trackers := w.trackers.set t .free
      pstate := w.pstate.set p st, ended := w.ended ||| patBit p } := by
  rw [endTracker_takeTurns hp (Env.releases_none h), takeTurns_nil, slotsAfter_unblocked h]

/-- R80: the offers of an ending. -/
theorem offers_abortRecord {e : Env} {w : Recog} {reason : Reason} {time : Time} {t : SlotIdx} {p : PatIdx}
    (hp : w.trackers[t].pattern = some p) : (if e.defs[p].header.reportAbort = true then
      w.offer (.aborted p e.defs[p].header.tag w.trackers[t].step reason (time.setWidth 16)) else w) =
      { w with offers := w.offers ++ (e.abortRecord w.trackers reason time t).toList } := by
  simp only [Env.abortRecord, hp]
  split <;> simp [Recog.offer]

/-- R99 to R101: one PENDING tracker with the ended pattern as its last blocker. -/
theorem endTracker_releasesOne {e : Env} {t u : SlotIdx} {reason : Reason} {time : Time} {st : PatState} {w : Recog}
    {p : PatIdx} {x : Pending} (hp : w.trackers[t].pattern = some p) (hut : u ≠ t) (hx : w.trackers[u] = .pending x)
    (hb : x.blockers = patBit p)
    (h : ∀ (v : SlotIdx) (y : Pending), v ≠ t → v ≠ u → w.trackers[v] = .pending y → hasPat y.blockers p = false) :
    endTracker e t reason time st w = complete e cascadeDepth u x.endTime true time { w with
      offers := w.offers ++ (e.abortRecord w.trackers reason time t).toList
      trackers := (w.trackers.set t .free).set u (.pending { x with blockers := 0 })
      pstate := w.pstate.set p st, ended := w.ended ||| patBit p } := by
  have emptied : x.blockers &&& ~~~patBit p = 0 := by rw [hb, BitVec.and_not_self]
  have releases : e.Releases w.trackers (fun u => u == t) (patBit p) [u] := by
    refine ⟨fun v => ?_, List.pairwise_singleton ..⟩
    rw [List.mem_singleton]
    constructor
    · rintro rfl
      have : patBit p ≠ 0 := fun h0 => by
        have := hasPat_patBit p p
        rw [h0, hasPat_zero] at this
        simp at this
      exact ⟨by simpa using hut, x, by rw [hx]; rfl, hb ▸ this, emptied⟩
    · rintro ⟨hv, y, hy, hne, he⟩
      by_contra hvu
      refine hne ?_
      rwa [blockers_without (h v y (by simpa using hv) hvu (Tracker.eq_pending hy))] at he
  have slots : slotsAfter w.trackers (fun u => u == t) (patBit p) =
      (w.trackers.set t .free).set u (.pending { x with blockers := 0 }) := by
    refine slots_ext fun v => ?_
    rw [slotsAfter_get, getElem_set_fin, getElem_set_fin]
    by_cases hv : u = v
    · subst hv
      rw [if_neg (by simpa using hut), if_pos rfl, hx, unblock, emptied]
    · by_cases hvt : v = t
      · simp [hvt, hvt ▸ hv]
      · rw [if_neg (by simpa using hvt), if_neg hv, if_neg (Ne.symm hvt),
          unblock_without fun y => h v y hvt (Ne.symm hv)]
  rw [endTracker_takeTurns hp releases, slots]
  refine takeTurns_one (x := { x with blockers := 0 }) ?_ rfl
  simp

/-- Settles O47: the depth by `complete_deep`, the turns by `endTracker_takeTurns`, one release by
`endTracker_releasesOne`. -/
theorem cascadesEndWithinSixCompletions : Obligations.CascadesEndWithinSixCompletions := by
  refine ⟨fun e n t te deferred time w hn => complete_deep w.inUse_le hn,
    fun e t reason time st w p order hp hr => endTracker_takeTurns hp hr, ?_⟩
  intro e t u reason time st w p x hp hut hx hb h
  rw [offers_abortRecord hp]
  exact endTracker_releasesOne hp hut hx hb h

end Sys2Proof.Machine
end

section
/-! PROOF. O43 and O44: DISABLE_PATTERN of an ACTIVE pattern, FLUSH_TRACKERS and CLEAR_QUEUE
(03_patterns_and_the_step_pool.md, section 3.6; 05_priority_claims_and_deferred_completion.md, sections 5.3 and 5.8).
First work at a command byte, then what several endings do together, then the commands. -/

namespace Sys2Proof.Machine

/-! ## Work and a command byte

A command's byte changes the port and the engine alone; work on the changeable state reads neither. -/

theorem State.taken_takeOffers (s : State) (code : Byte) (l : List Record) :
    (s.taken code).takeOffers l = (s.takeOffers l).taken code := by
  induction l generalizing s with
  | nil => rfl
  | cons r l ih => exact ih (s.push r)

theorem State.taken_work (s : State) (code : Byte) (f : Env → Recog → Recog) :
    (s.taken code).work f = (s.work f).taken code :=
  (s.putRecog (f s.env s.recog)).taken_takeOffers code _

theorem State.taken_postOk (s : State) (code : Byte) : (s.taken code).postOk = s.posted code .ok 0 := rfl

/-- R130: one record offered under a condition. -/
theorem State.takeOffers_if (s : State) (b : Bool) (r : Record) :
    s.takeOffers (if b = true then some r else none).toList = s.queued b r := by
  rw [State.queued_eq_push]
  cases b <;> rfl

/-- Work with known outcome. -/
theorem State.work_eq {s : State} {f : Env → Recog → Recog} {w : Recog} (h : f s.env s.recog = w) :
    s.work f = (s.putRecog w).takeOffers w.offers := by rw [← h]; rfl

/-! ## Endings with no tracker PENDING -/

/-- R80: an ending offers its record under REPORT_ABORT, frees its slot and gives its pattern its state; nothing more
where no other tracker is PENDING. -/
theorem State.work_endTracker {s : State} {t : SlotIdx} {p : PatIdx} {reason : Reason} {time : Time} {st : PatState}
    (hp : s.trackers[t].pattern = some p)
    (h : ∀ (v : SlotIdx) (y : Pending), v ≠ t → s.trackers[v] ≠ .pending y) :
    (s.work fun e w => endTracker e t reason time st w) =
      { s with patState := s.patState.set p st, trackers := s.trackers.set t .free }.queued
        s.patDef[p].header.reportAbort
        (.aborted p s.patDef[p].header.tag s.trackers[t].step reason (shortTime time)) := by
  rw [State.work_eq (endTracker_alone (w := s.recog) hp fun v y hv hy => absurd hy (h v y hv)),
    abortRecord_bound (e := s.env) (trackers := s.recog.trackers) hp]
  exact State.takeOffers_if _ _ _

/-! ## DISABLE_PATTERN (R56, R109) -/

/-- A pattern that no tracker is bound to keeps its state while trackers end and complete. -/
theorem unbound_closed (e : Env) (p : PatIdx) (st : PatState) :
    EndClosed e fun w => w.pstate[p] = st ∧ ∀ t : SlotIdx, w.trackers[t].pattern ≠ some p := by
  have other {v w : Recog} {t : SlotIdx} {q : PatIdx} {st' : PatState} (ht : w.trackers[t].pattern = some q)
      (hs : v.pstate = w.pstate.set q st') (hv : v.trackers = w.trackers.set t .free)
      (h : w.pstate[p] = st ∧ ∀ t : SlotIdx, w.trackers[t].pattern ≠ some p) :
      v.pstate[p] = st ∧ ∀ t : SlotIdx, v.trackers[t].pattern ≠ some p := by
    obtain ⟨hst, hn⟩ := h
    refine ⟨?_, fun u => ?_⟩
    · rw [hs, getElem_set_fin, if_neg (by rintro rfl; exact hn t ht), hst]
    · rw [hv, getElem_set_fin]
      split
      · nofun
      · exact hn u
  exact {
    ends := fun t reason time st' w _ h => by
      cases ht : w.trackers[t].pattern with
      | none => rwa [endSlot_free e t reason time st' w ht]
      | some q => exact other ht (endSlot_bound ht).1 (endSlot_bound ht).2 h
    completes := fun t q te deferred time w ht h => by
      obtain ⟨_, h1, h2⟩ := completeSlot_bound (e := e) (t := t) (p := q) (te := te) (deferred := deferred)
        (time := time) (w := w)
      exact other ht h1 h2 h
    unblocks := fun gone w h => ⟨h.1, fun t => by simpa only [getElem_ofFn_fin, unblock_pattern] using h.2 t⟩
    claims := fun _ _ h => h }

/-- R80: an ended tracker's pattern keeps the state of the ending, and no slot is bound to it. -/
theorem endTracker_leaves {e : Env} {t : SlotIdx} {p : PatIdx} {reason : Reason} {time : Time} {st : PatState}
    {w : Recog} {build : Option PatIdx} (hb : w.Bound build) (hp : w.trackers[t].pattern = some p) :
    (endTracker e t reason time st w).pstate[p] = st
      ∧ ∀ u : SlotIdx, (endTracker e t reason time st w).trackers[u].pattern ≠ some p := by
  rw [endTracker_eq hp]
  have c := unbound_closed e p st
  refine releaseBy_keeps c.unblocks _ _ (fun u v hv => c.complete _ _ _ _ _ v hv) _ ?_
  obtain ⟨h1, h2⟩ := endSlot_bound (e := e) (reason := reason) (time := time) (st := st) hp
  refine ⟨by rw [h1, getElem_set_fin, if_pos rfl], fun u => ?_⟩
  rw [h2, getElem_set_fin]
  split
  · nofun
  · next hu => exact fun h => hu (hb.unique hp h)

theorem disableActive_bound {e : Env} {t : SlotIdx} {p : PatIdx} {w : Recog} {build : Option PatIdx}
    (hb : w.Bound build) (hp : w.trackers[t].pattern = some p) :
    disableActive p e w = endTracker e t .cancelled e.now .disabled w := by
  obtain ⟨u, hu, hup⟩ := hb.slotOf_isSome ((hb.active p).2 ⟨t, hp⟩)
  simp only [disableActive, hu, hb.unique hup hp]

/-- R56: DISABLE_PATTERN of an ACTIVE pattern ends its tracker. -/
theorem exec_disablePattern_active {s : State} {p : PatIdx} {t : SlotIdx} (hs : s.Takes) (hb : s.BindingsOk)
    (ha : s.engine.arg0 = BitVec.ofNat 8 p.val) (hp : s.trackers[t].pattern = some p) :
    exec .disablePattern s =
      .next ((s.work fun e w => endTracker e t .cancelled s.time .disabled w).posted 0x17#8 .ok 0) := by
  refine congrArg _ ((cmdByte_onPattern 0x17 disableAt hs ha).trans ?_)
  have active : (s.taken 0x17).patState[p] = .active := (hb.1 p).2 ⟨t, hp⟩
  have work : s.work (disableActive p) = s.work fun e w => endTracker e t .cancelled s.time .disabled w :=
    State.work_eq (disableActive_bound (e := s.env) (s.bindingsOk_iff.1 hb) hp)
  simp only [disableAt, active, State.taken_work, work]
  rfl

theorem posted_flags (f : BitVec 6) : (f ||| 0x01#6) &&& ~~~0x01#6 ||| 0x01#6 = f ||| 0x01#6 := by
  revert f; decide

/-- Settles O43: the ending leaves its slot and pattern as `endTracker_leaves` says. -/
theorem disableCancelsAnActivePattern : Obligations.DisableCancelsAnActivePattern := by
  intro s p t hs hb ha hp
  have held : (endTracker s.env t .cancelled s.time .disabled s.recog).held = s.held :=
    (heldFixed s.env s.held).workClosed.ends t .cancelled s.time .disabled s.recog (.inr rfl) rfl
  obtain ⟨state, free⟩ := endTracker_leaves (e := s.env) (reason := .cancelled) (time := s.time) (st := .disabled)
    (s.bindingsOk_iff.1 hb) hp
  refine ⟨_, exec_disablePattern_active hs hb ha hp, ?_, ?_, ?_, rfl, fun none => ?_⟩
  · rw [State.posted, State.work, State.takeOffers_frame]
    exact state
  · rw [State.posted, State.work, State.takeOffers_frame]
    exact free
  · rw [State.work, State.takeOffers_frame]
    simp only [State.posted, State.acked, posted_flags]
    simp only [State.putRecog, held]
  · rw [State.work_endTracker hp none]
    rfl

/-! ## Several endings, none of which is removed from BLOCKERS sets (R97) -/

theorem Recog.eq_of {v w : Recog} (h1 : v.pstate = w.pstate) (h2 : v.trackers = w.trackers) (h3 : v.held = w.held)
    (h4 : v.outs = w.outs) (h5 : v.flags = w.flags) (h6 : v.offers = w.offers) (h7 : v.ended = w.ended)
    (h8 : v.claimed = w.claimed) : v = w := by
  cases v; cases w; simp_all only

theorem patStates_ext {v w : Vector PatState 24} (h : ∀ p : PatIdx, v[p] = w[p]) : v = w :=
  Vector.ext fun i hi => h ⟨i, hi⟩

theorem Tracker.eq_free {x : Tracker} (h : x.pattern = none) : x = .free := by cases x <;> cases h; rfl

/-- R97: what the cancel of a group makes of the changeable state: the records are offered in the group's order. -/
def Recog.cancelled (e : Env) (group : List SlotIdx) (reason : Reason) (time : Time) (w : Recog) : Recog :=
  { w with
    offers := w.offers ++ group.filterMap (e.abortRecord w.trackers reason time)
    trackers := Vector.ofFn fun u => if u ∈ group then .free else w.trackers[u]
    pstate := Vector.ofFn fun q => if ∃ u ∈ group, w.trackers[u].pattern = some q then .ready else w.pstate[q]
    ended := w.ended ||| patternsOf w.trackers group }

/-- The slot of a group's first member, where it is in use, is freed first. -/
theorem Recog.cancelled_cons {e : Env} {t : SlotIdx} {group : List SlotIdx} {reason : Reason} {time : Time} {w : Recog}
    {p : PatIdx} (ht : t ∉ group) (hp : w.trackers[t].pattern = some p) :
    (endSlot e t reason time .ready w).cancelled e group reason time = w.cancelled e (t :: group) reason time := by
  have other (u : SlotIdx) (hu : u ∈ group) : (w.trackers.set t .free)[u] = w.trackers[u] := by
    rw [getElem_set_fin, if_neg (by rintro rfl; exact ht hu)]
  have bound (q : PatIdx) : (∃ u ∈ group, (w.trackers.set t .free)[u].pattern = some q)
      ↔ ∃ u ∈ group, w.trackers[u].pattern = some q :=
    exists_congr fun u => and_congr_right fun hu => by rw [other u hu]
  rw [endSlot_eq hp]
  refine Recog.eq_of (patStates_ext fun q => ?_) (slots_ext fun u => ?_) rfl rfl rfl ?_ (patSet_ext fun q => ?_) rfl
  · simp only [Recog.cancelled, getElem_ofFn_fin, bound, List.exists_mem_cons_iff, hp, Option.some.injEq]
    rw [getElem_set_fin]
    by_cases hq : p = q
    · simp [hq]
    · simp [hq]
  · simp only [Recog.cancelled, getElem_ofFn_fin, List.mem_cons, getElem_set_fin]
    by_cases hu : u = t
    · simp [hu]
    · simp [hu, Ne.symm hu]
  · have rest : group.filterMap (e.abortRecord (w.trackers.set t .free) reason time) =
        group.filterMap (e.abortRecord w.trackers reason time) :=
      List.filterMap_congr fun u hu => by simp only [Env.abortRecord, other u hu]
    simp only [Recog.cancelled, rest, List.append_assoc, List.filterMap_cons]
    cases e.abortRecord w.trackers reason time t <;> rfl
  · rw [Bool.eq_iff_iff]
    simp only [Recog.cancelled, hasPat_or, Bool.or_eq_true, hasPat_patternsOf, bound, hasPat_patBit, decide_eq_true_eq,
      List.exists_mem_cons_iff, hp, Option.some.injEq, or_assoc]

theorem Recog.cancelled_free {e : Env} {t : SlotIdx} {group : List SlotIdx} {reason : Reason} {time : Time} {w : Recog}
    (hp : w.trackers[t].pattern = none) : w.cancelled e group reason time = w.cancelled e (t :: group) reason time := by
  have free := Tracker.eq_free hp
  refine Recog.eq_of (patStates_ext fun q => ?_) (slots_ext fun u => ?_) rfl rfl rfl ?_ (patSet_ext fun q => ?_) rfl
  · simp only [Recog.cancelled, getElem_ofFn_fin, List.exists_mem_cons_iff, hp, reduceCtorEq, false_or]
  · simp only [Recog.cancelled, getElem_ofFn_fin, List.mem_cons]
    by_cases hu : u = t
    · subst hu; simp only [free, true_or, ite_self]
    · simp only [hu, false_or]
  · simp only [Recog.cancelled, List.filterMap_cons, Env.abortRecord, hp]
  · rw [Bool.eq_iff_iff]
    simp only [Recog.cancelled, hasPat_or, Bool.or_eq_true, hasPat_patternsOf, List.exists_mem_cons_iff, hp,
        reduceCtorEq, false_or]

/-- R97: a group of trackers is cancelled. -/
theorem cancelGroup_eq {e : Env} {reason : Reason} {time : Time} {group : List SlotIdx} (hg : group.Nodup) (w : Recog) :
    cancelGroup e group reason time w = w.cancelled e group reason time := by
  induction group generalizing w with
  | nil =>
    show w = _
    refine Recog.eq_of (patStates_ext fun q => ?_) (slots_ext fun u => ?_) ?_ ?_ ?_ ?_ ?_ ?_
    all_goals simp [Recog.cancelled, patternsOf]
  | cons t l ih =>
    obtain ⟨ht, hl⟩ := List.nodup_cons.1 hg
    rw [cancelGroup, List.foldl_cons, ← cancelGroup, ih hl]
    cases hp : w.trackers[t].pattern with
    | none => rw [endSlot_free e t reason time .ready w hp, Recog.cancelled_free hp]
    | some p => exact Recog.cancelled_cons ht hp

/-- R97: two groups, one after the other. -/
theorem Recog.cancelled_append {e : Env} {l m : List SlotIdx} {reason : Reason} {time : Time} {w : Recog}
    (h : (l ++ m).Nodup) :
    (w.cancelled e l reason time).cancelled e m reason time = w.cancelled e (l ++ m) reason time := by
  rw [← cancelGroup_eq h, ← cancelGroup_eq (List.nodup_append.1 h).1, ← cancelGroup_eq (List.nodup_append.1 h).2.1]
  exact List.foldl_append.symm

/-! ## FLUSH_TRACKERS (R108) -/

/-- Nothing is released where no tracker is PENDING. -/
theorem releaseBy_noPending {e : Env} {gone : PatSet} {finish : SlotIdx → Recog → Recog} {w : Recog}
    (h : ∀ (u : SlotIdx) (y : Pending), w.trackers[u] ≠ .pending y) : releaseBy e gone finish w = w := by
  have none (u : SlotIdx) : isReleasedBy gone w.trackers[u] = false ∧ unblock gone w.trackers[u] = w.trackers[u] := by
    cases hu : w.trackers[u] with
    | pending y => exact absurd hu (h u y)
    | free => exact ⟨rfl, rfl⟩
    | waiting y => exact ⟨rfl, rfl⟩
  have same : (Vector.ofFn fun t => unblock gone w.trackers[t]) = w.trackers :=
    slots_ext fun u => by rw [getElem_ofFn_fin, (none u).2]
  unfold releaseBy
  rw [same, List.filter_eq_nil_iff.2 fun u _ => by rw [(none u).1]; nofun]
  rfl

theorem endTracker_noPending {e : Env} {t : SlotIdx} {reason : Reason} {time : Time} {st : PatState} {w : Recog}
    (h : ∀ (u : SlotIdx) (y : Pending), w.trackers[u] ≠ .pending y) :
    endTracker e t reason time st w = endSlot e t reason time st w := by
  cases hp : w.trackers[t].pattern with
  | none => rw [endSlot_free e t reason time st w hp, endTracker, hp]
  | some p =>
    rw [endTracker_eq hp, releaseBy_noPending]
    intro u y
    rw [endSlot_trackers, getElem_set_fin]
    split
    · nofun
    · exact h u y

/-- R108: the WAITING trackers of a list are cancelled one after another. -/
theorem foldl_cancelWaiting {e : Env} {time : Time} {l : List SlotIdx} (hl : l.Nodup) (w : Recog)
    (h : ∀ (u : SlotIdx) (y : Pending), w.trackers[u] ≠ .pending y) :
    l.foldl (fun v t => if v.trackers[t].isWaiting then endTracker e t .cancelled time .ready v else v) w =
      cancelGroup e (l.filter fun t => w.trackers[t].isWaiting) .cancelled time w := by
  induction l generalizing w with
  | nil => rfl
  | cons t l ih =>
    obtain ⟨ht, hl⟩ := List.nodup_cons.1 hl
    rw [List.foldl_cons, List.filter_cons]
    split
    · have after (u : SlotIdx) : (endSlot e t .cancelled time .ready w).trackers[u] =
          if t = u then .free else w.trackers[u] := by rw [endSlot_trackers, getElem_set_fin]
      rw [endTracker_noPending h, ih hl _ fun u y => by rw [after]; split; nofun; exact h u y]
      refine congrArg (cancelGroup e · _ _ _) (List.filter_congr fun u hu => ?_)
      rw [after, if_neg (by rintro rfl; exact ht hu)]
    · exact ih hl w h

theorem Tracker.pattern_cases (x : Tracker) : x.pattern.isSome = (x.isPending || x.isWaiting) := by cases x <;> rfl

/-- R108: the slots in use, those of PENDING trackers first. -/
def flushOrder (trackers : Vector Tracker 6) : List SlotIdx :=
  (allSlots.filter fun t => trackers[t].isPending) ++ allSlots.filter fun t => trackers[t].isWaiting

theorem mem_flushOrder (trackers : Vector Tracker 6) (t : SlotIdx) :
    t ∈ flushOrder trackers ↔ trackers[t].pattern ≠ none := by
  rw [Option.ne_none_iff_isSome, Tracker.pattern_cases]
  simp [flushOrder, allSlots]

theorem flushOrder_nodup (trackers : Vector Tracker 6) : (flushOrder trackers).Nodup := by
  have nodup : allSlots.Nodup := List.nodup_finRange 6
  refine List.Nodup.append (nodup.filter _) (nodup.filter _) fun t hp hw => ?_
  have hp := (List.mem_filter.1 hp).2
  have hw := (List.mem_filter.1 hw).2
  cases ht : trackers[t] <;> simp_all [Tracker.isPending, Tracker.isWaiting]

/-- R108: a flush is the cancel of every tracker, those PENDING first. -/
theorem flushWork_eq (e : Env) (w : Recog) :
    flushWork e w = w.cancelled e (flushOrder w.trackers) .cancelled e.now := by
  have nodup : allSlots.Nodup := List.nodup_finRange 6
  have first := cancelGroup_eq (e := e) (reason := .cancelled) (time := e.now)
    (nodup.filter fun t => w.trackers[t].isPending) w
  have after (u : SlotIdx) :
      (w.cancelled e (allSlots.filter fun t => w.trackers[t].isPending) .cancelled e.now).trackers[u]
      = if w.trackers[u].isPending = true then .free else w.trackers[u] := by
    simp [Recog.cancelled, allSlots]
  have noPending (u : SlotIdx) (y : Pending) :
      (w.cancelled e (allSlots.filter fun t => w.trackers[t].isPending) .cancelled e.now).trackers[u] ≠ .pending y := by
    rw [after]
    split
    · nofun
    · next hn => exact fun h => hn (by rw [h]; rfl)
  have waiting (u : SlotIdx) : Tracker.isWaiting
      (w.cancelled e (allSlots.filter fun t => w.trackers[t].isPending) .cancelled e.now).trackers[u]
        = w.trackers[u].isWaiting := by
    rw [after]
    cases w.trackers[u] <;> rfl
  unfold flushWork
  dsimp only
  rw [first, releaseBy_noPending noPending, foldl_cancelWaiting nodup _ noPending, cancelGroup_eq (nodup.filter _)]
  simp only [waiting]
  exact Recog.cancelled_append (flushOrder_nodup w.trackers)

/-- Settles O44: the flush is one cancel of all slots, PENDING ones first (`flushWork_eq`). -/
theorem flushAndClear : Obligations.FlushAndClear := by
  refine ⟨fun s cancelled hs hc => ?_, fun s hs => congrArg _ (cmdByte_takes hs)⟩
  have records (f : Tracker → Bool) : (allSlots.filter fun t => f s.trackers[t]).filterMap
      (s.env.abortRecord s.trackers .cancelled s.time) = cancelled f := by
    rw [hc, List.filterMap_filter]
    rfl
  have out : flushWork s.env s.recog = { s.recog with
      offers := cancelled Tracker.isPending ++ cancelled Tracker.isWaiting
      trackers := Vector.replicate 6 .free
      pstate := Vector.ofFn fun p : PatIdx => if ∃ u : SlotIdx, s.trackers[u].pattern = some p then PatState.ready
        else s.patState[p]
      ended := (s.recog.cancelled s.env (flushOrder s.trackers) .cancelled s.time).ended } := by
    rw [flushWork_eq]
    refine Recog.eq_of (patStates_ext fun p => ?_) (slots_ext fun u => ?_) rfl rfl rfl ?_ rfl rfl
    · simp only [Recog.cancelled, getElem_ofFn_fin]
      refine if_congr (exists_congr fun u => ?_) rfl rfl
      rw [show s.recog.trackers = s.trackers from rfl, mem_flushOrder, and_iff_right_iff_imp]
      exact fun h => by rw [h]; nofun
    · simp only [Recog.cancelled, getElem_ofFn_fin]
      by_cases hu : u ∈ flushOrder s.recog.trackers
      · rw [if_pos hu]; simp
      · rw [if_neg hu, Tracker.eq_free (not_not.1 fun h => hu ((mem_flushOrder _ u).2 h))]; simp
    · rw [Recog.cancelled, flushOrder, List.filterMap_append]
      exact (List.nil_append _).trans (congrArg₂ (· ++ ·) (records Tracker.isPending) (records Tracker.isWaiting))
  refine congrArg Host.Outcome.next ((cmdByte_takes (work := fun v => (v.work flushWork).postOk) hs).trans ?_)
  rw [← State.taken, State.taken_work, State.work_eq out]
  rfl

end Sys2Proof.Machine
end

section
/-! PROOF. O53: what resolves a candidate, and what a completion does
(05_priority_claims_and_deferred_completion.md, sections 5.1 to 5.5): its record and action, its slot and pattern, the
group that its claim cancels, and the turns of the trackers that this releases. -/

namespace Sys2Proof.Machine

/-! ## Resolution (R92) -/

theorem resolve_waiting {e : Env} {t : SlotIdx} {te : Time} {w : Recog} {x : Waiting}
    (hx : w.trackers[t] = .waiting x) :
    resolve e t te w =
      if e.defs[x.pattern].header.defer = true ∧ blockersOf e x.pattern w.trackers ≠ 0 then
        w.setTracker t (.pending (x.toPending te (blockersOf e x.pattern w.trackers)))
      else complete e cascadeDepth t te false te w := by
  simp only [resolve, hx, Env.pat, Bool.and_eq_true, bne_iff_ne, ne_eq]

/-! ## Record and action (R94 to R96) -/

/-- R94, steps 1 and 2: the record is offered and the action performed. -/
def Recog.acted (e : Env) (t : SlotIdx) (p : PatIdx) (te : Time) (deferred : Bool) (time : Time) (w : Recog) : Recog :=
  actOpt e (actionOf (e.pat p) time) (w.offerIf (e.pat p).header.reportDone
    (.recognized p (e.pat p).header.tag (shortTime w.trackers[t].startTime) (shortTime te) deferred
      (skippedFlag e (actionOf (e.pat p) time) w)))

/-- R94, steps 1 and 2: but for outputs and offers nothing changes. -/
theorem Recog.acted_frame (e : Env) (t : SlotIdx) (p : PatIdx) (te : Time) (deferred : Bool) (time : Time) (w : Recog) :
    ∃ outs offers, w.acted e t p te deferred time = { w with outs := outs, offers := offers } := by
  have offers (b : Bool) (r : Record) : ∃ l, w.offerIf b r = { w with offers := l } := by
    cases b
    · exact ⟨w.offers, rfl⟩
    · exact ⟨_, rfl⟩
  obtain ⟨l, hl⟩ := offers (e.pat p).header.reportDone (.recognized p (e.pat p).header.tag
    (shortTime w.trackers[t].startTime) (shortTime te) deferred (skippedFlag e (actionOf (e.pat p) time) w))
  unfold Recog.acted
  rw [hl]
  cases actionOf (e.pat p) time with
  | none => exact ⟨_, _, rfl⟩
  | some a =>
    simp only [actOpt, Recog.act]
    split <;> exact ⟨_, _, rfl⟩

/-- R94, steps 1 to 3. -/
theorem completeSlot_eq (e : Env) (t : SlotIdx) (p : PatIdx) (te : Time) (deferred : Bool) (time : Time) (w : Recog) :
    completeSlot e t p te deferred time w = { w.acted e t p te deferred time with
      trackers := w.trackers.set t .free
      pstate := w.pstate.set p (rearmState (e.pat p) w.held), ended := w.ended ||| patBit p } := by
  obtain ⟨outs, offers, h⟩ := w.acted_frame e t p te deferred time
  unfold completeSlot
  dsimp only
  rw [← Recog.acted, h]
  rfl

/-- R116: whether an action is skipped. -/
theorem actionSkipped_eq (c : OutCfg) (o : OutState) (a : Action) (held : ChanSet) :
    actionSkipped c o a held =
      decide (c.enable = false ∨ o = .off ∨ c.mode = .host ∨ a.op = .follow ∧ a.lastSet &&& held = 0) := by
  rw [Bool.eq_iff_iff]
  simp [actionSkipped, followSetOf, or_assoc]

/-- R102: the state of a pattern that completes. -/
theorem rearmState_eq (d : PatDef) (held : ChanSet) : rearmState d held = match d.header.rearm with
    | .once => .spent
    | .again => .ready
    | .afterRelease => if d.univ &&& held = 0 then .ready else .locked := by
  unfold rearmState
  cases d.header.rearm with
  | once => rfl
  | again => rfl
  | afterRelease => by_cases h : d.univ &&& held = 0 <;> simp [overlaps, h]

/-! ## Claims (R97, R98) -/

theorem mem_claimGroup {e : Env} {t u : SlotIdx} {p : PatIdx} {w : Recog} : u ∈ claimGroup e t p w ↔
    (e.pat p).header.claim = true ∧ u ≠ t ∧ ∃ q ∈ w.trackers[u].pattern, (e.pat q).univ &&& (e.pat p).univ ≠ 0 := by
  unfold claimGroup
  cases (e.pat p).header.claim with
  | false => simp
  | true =>
    simp only [if_true, overlapping, List.mem_filter, allSlots, List.mem_finRange, true_and, getElem_set_fin]
    by_cases hu : u = t
    · simp [hu, Tracker.pattern]
    · simp only [Ne.symm hu, if_false, ne_eq, hu, not_false_eq_true, true_and]
      cases w.trackers[u].pattern with
      | none => simp
      | some q => simp [overlaps]

theorem claimGroup_nodup (e : Env) (t : SlotIdx) (p : PatIdx) (w : Recog) : (claimGroup e t p w).Nodup := by
  unfold claimGroup
  split
  · exact (List.nodup_finRange 6).filter _
  · exact List.nodup_nil

/-- A claim's group, in ascending slot order. -/
theorem claimGroup_eq_filter {e : Env} {t : SlotIdx} {p : PatIdx} {w : Recog} {group : SlotIdx → Bool}
    (h : ∀ u, group u = true ↔ u ∈ claimGroup e t p w) : claimGroup e t p w = allSlots.filter group := by
  have sorted : (claimGroup e t p w).Pairwise (· < ·) := by
    unfold claimGroup
    split
    · exact List.Pairwise.filter _ (by decide)
    · exact List.Pairwise.nil
  refine sorted.eq_of_mem_iff (List.Pairwise.filter _ (by decide)) fun u => ?_
  rw [← h u]
  simp [allSlots]

/-- R94, R98: what a completion leaves once it has freed its slot and cancelled its claim's group. -/
theorem completionEnds_eq (e : Env) (t : SlotIdx) (p : PatIdx) (te : Time) (deferred : Bool) (time : Time) (w : Recog) :
    (completionEnds e t p te deferred time w).2 =
      Recog.cancelled e (claimGroup e t p w) .superseded time { completeSlot e t p te deferred time w with
        claimed := if (e.pat p).header.claim = true then w.claimed ||| (e.pat p).univ else w.claimed } := by
  have claimed : (completeSlot e t p te deferred time w).claimed = w.claimed := by
    obtain ⟨outs, offers, h⟩ := w.acted_frame e t p te deferred time
    rw [completeSlot_eq, h]
  rw [← cancelGroup_eq (claimGroup_nodup e t p w)]
  simp only [completionEnds, claimGroup, completeSlot_trackers, claimed]
  split
  · rfl
  · rw [← claimed, ← completeSlot_trackers e t p te deferred time w]; rfl

/-! ## A whole completion -/

/-- R94 to R101: a completion is its own ending and its group's, with the turns of the trackers that this releases. -/
theorem complete_takeTurns {e : Env} {t : SlotIdx} {p : PatIdx} {te : Time} {deferred : Bool} {time : Time} {w : Recog}
    {group : SlotIdx → Bool} {gone : PatSet} {order : List SlotIdx} (hp : w.trackers[t].pattern = some p)
    (hg : ∀ u, group u = true ↔ u ∈ claimGroup e t p w)
    (hgone : ∀ q : PatIdx, hasPat gone q = true ↔ q = p ∨ ∃ u, group u = true ∧ w.trackers[u].pattern = some q)
    (hr : e.Releases w.trackers (fun u => u == t || group u) gone order) :
    complete e cascadeDepth t te deferred time w = takeTurns e time order
      { (completionEnds e t p te deferred time w).2 with
        trackers := slotsAfter w.trackers (fun u => u == t || group u) gone } := by
  have other {u : SlotIdx} (hu : group u = true) : u ≠ t := ((mem_claimGroup (p := p)).1 ((hg u).1 hu)).2.1
  have ends : (completionEnds e t p te deferred time w).1 = gone := by
    refine patSet_ext fun q => ?_
    rw [Bool.eq_iff_iff, hgone, completionEnds_gone, hasPat_or, Bool.or_eq_true, hasPat_patternsOf, hasPat_patBit,
      decide_eq_true_eq, or_comm, eq_comm]
    refine or_congr_right (exists_congr fun u => ?_)
    rw [← hg u]
    exact and_congr_right fun hu => by rw [getElem_set_fin, if_neg (Ne.symm (other hu))]
  rw [complete_eq hp, ends]
  refine releaseBy_eq_takeTurns (w := w) (fun u => ?_) hr
  rw [completionEnds_trackers]
  simp only [Bool.or_eq_true, beq_iff_eq, hg]

/-- R41, R95, R96: the record and the action by the fields of the header. -/
theorem Recog.acted_eq {e : Env} {t : SlotIdx} {p : PatIdx} {te : Time} {deferred : Bool} {time : Time} {w : Recog}
    {skipped : Bool} (h : skipped = (match (e.pat p).header.actionOut with
      | none => false
      | some o => decide (e.outCfg[o].enable = false ∨ w.outs[o] = .off ∨ e.outCfg[o].mode = .host
          ∨ (e.pat p).header.actionOp = .follow ∧ lastSet (e.pat p) &&& w.held = 0))) :
    w.acted e t p te deferred time = match (e.pat p).header.actionOut with
      | none => w.offerIf (e.pat p).header.reportDone
          (.recognized p (e.pat p).header.tag (shortTime w.trackers[t].startTime) (shortTime te) deferred skipped)
      | some o => (w.offerIf (e.pat p).header.reportDone
          (.recognized p (e.pat p).header.tag (shortTime w.trackers[t].startTime) (shortTime te) deferred
            skipped)).act e
            { out := o, op := (e.pat p).header.actionOp, pulseLen := (e.pat p).header.pulseLen,
              lastSet := lastSet (e.pat p), time := time } := by
  subst h
  unfold Recog.acted actionOf
  cases (e.pat p).header.actionOut with
  | none => rfl
  | some o => simp only [actOpt, skippedFlag, actionSkipped_eq]

/-- Settles O53: candidates by `resolve_waiting`, completions by `complete_takeTurns` with the claim's group. -/
theorem completionsRecordActAndRearm : Obligations.CompletionsRecordActAndRearm := by
  refine ⟨fun e t te w x b hx hb => hb ▸ resolve_waiting hx, ?_⟩
  rintro e t te time deferred w r a p h last st group gone order hp rfl once rfl hr ha hst hgroup hgone hrel
  have hg (u : SlotIdx) : group u = true ↔ u ∈ claimGroup e t p w := (hgroup u).trans mem_claimGroup.symm
  have other {u : SlotIdx} (hu : group u = true) : (w.trackers.set t .free)[u] = w.trackers[u] := by
    rw [getElem_set_fin, if_neg (Ne.symm ((hgroup u).1 hu).2.1)]
  have acted : w.acted e t p te deferred time = a := by
    rw [Recog.acted_eq rfl, ha, hr]
    rfl
  have state : rearmState (e.pat p) w.held = st := (rearmState_eq _ _).trans hst.symm
  obtain ⟨outs, offers, frame⟩ := w.acted_frame e t p te deferred time
  refine (complete_takeTurns hp hg hgone hrel).trans (congrArg _ ?_)
  rw [completionEnds_eq, completeSlot_eq, acted, state]
  rw [acted] at frame
  subst frame
  refine Recog.eq_of (patStates_ext fun q => ?_) rfl rfl rfl rfl ?_ (patSet_ext fun q => ?_) rfl
  · simp only [Recog.cancelled, getElem_ofFn_fin, ← hg]
    rw [getElem_set_fin]
    have bound : (∃ u, group u = true ∧ (w.trackers.set t .free)[u].pattern = some q)
        ↔ ∃ u, group u = true ∧ w.trackers[u].pattern = some q :=
      exists_congr fun u => and_congr_right fun hu => by rw [other hu]
    rw [if_congr bound rfl rfl]
    by_cases hq : p = q
    · subst hq
      rw [if_neg, if_pos rfl, if_pos rfl]
      rintro ⟨u, hu, hup⟩
      exact once u ((hgroup u).1 hu).2.1 hup
    · rw [if_neg hq, if_neg (Ne.symm hq)]
  · simp only [Recog.cancelled, claimGroup_eq_filter hg, List.filterMap_filter]
    refine congrArg _ (List.filterMap_congr fun u _ => ?_)
    by_cases hu : group u = true
    · simp only [hu, if_true, Env.abortRecord, other hu]
    · simp only [hu, if_false, Bool.false_eq_true]
  · rw [Bool.eq_iff_iff]
    simp only [Recog.cancelled, hasPat_or, Bool.or_eq_true, hasPat_patternsOf, hasPat_patBit, decide_eq_true_eq, hgone,
      ← hg, or_assoc, eq_comm (a := p)]
    refine or_congr_right (or_congr_right (exists_congr fun u => and_congr_right fun hu => ?_))
    rw [other hu]

end Sys2Proof.Machine
end

section
/-! PROOF. O48: the blocker set of a candidate, and the victim of a start
(05_priority_claims_and_deferred_completion.md, sections 5.1 and 5.7). -/

namespace Sys2Proof.Machine

/-! ## START_TIMEs within 2^31 of an origin (R2) -/

theorem before_iff {a b origin : Time} (ha : (a - origin).toNat < 2 ^ 31) (hb : (b - origin).toNat < 2 ^ 31) :
    before a b = true ↔ (a - origin).toNat < (b - origin).toNat := by
  rw [before, Bool.and_eq_true, decide_eq_true_eq, decide_eq_true_eq, elapsed]
  rw [BitVec.toNat_sub] at ha hb ⊢
  rw [BitVec.toNat_sub, BitVec.toNat_sub]
  omega

theorem time_eq_of_sub {a b origin : Time} (h : (a - origin).toNat = (b - origin).toNat) : a = b := by
  have := BitVec.eq_of_toNat_eq h
  exact sub_left_injective this

/-! ## The victim (R105) -/

/-- R105: a tracker is at least as good a victim as another: of lower priority; or of the same, with a later START_TIME;
or with the same, and of no lower index. -/
def Env.VictimBefore (e : Env) (origin : Time) (x y : Waiting) : Prop :=
  e.prio x.pattern < e.prio y.pattern ∨ e.prio x.pattern = e.prio y.pattern
    ∧ ((y.startTime - origin).toNat < (x.startTime - origin).toNat ∨ y.startTime = x.startTime ∧ y.pattern ≤ x.pattern)

namespace Env.VictimBefore

variable {e : Env} {origin : Time} {x y z : Waiting}

theorem refl : e.VictimBefore origin x x := .inr ⟨rfl, .inr ⟨rfl, le_refl _⟩⟩

theorem trans (h : e.VictimBefore origin x y) (k : e.VictimBefore origin y z) : e.VictimBefore origin x z := by
  rcases h with h | ⟨h, i⟩
  · exact .inl (k.elim (lt_trans h) fun ⟨k, _⟩ => k ▸ h)
  · rcases k with k | ⟨k, l⟩
    · exact .inl (h ▸ k)
    · refine .inr ⟨h.trans k, ?_⟩
      rcases i with i | ⟨i, m⟩
      · exact .inl (l.elim (fun l => l.trans i) fun ⟨l, _⟩ => l ▸ i)
      · rcases l with l | ⟨l, n⟩
        · exact .inl (i ▸ l)
        · exact .inr ⟨l.trans i, n.trans m⟩

/-- R105: the comparison of the fold, and its failure. -/
theorem of_victimFirst (hx : (x.startTime - origin).toNat < 2 ^ 31) (hy : (y.startTime - origin).toNat < 2 ^ 31) :
    if victimFirst e x y = true then e.VictimBefore origin x y else e.VictimBefore origin y x := by
  have start (h : ¬ (y.startTime - origin).toNat < (x.startTime - origin).toNat)
      (k : ¬ (x.startTime - origin).toNat < (y.startTime - origin).toNat) : x.startTime = y.startTime :=
    time_eq_of_sub (origin := origin) (by omega)
  have first : victimFirst e x y = true ↔ e.prio x.pattern < e.prio y.pattern ∨ e.prio x.pattern = e.prio y.pattern
      ∧ ((y.startTime - origin).toNat < (x.startTime - origin).toNat
        ∨ ¬ (x.startTime - origin).toNat < (y.startTime - origin).toNat ∧ y.pattern < x.pattern) := by
    rw [← before_iff hy hx, ← before_iff hx hy]
    simp [victimFirst]
  unfold Env.VictimBefore
  split
  · next h =>
    refine (first.1 h).imp_right fun ⟨hp, h⟩ => ⟨hp, ?_⟩
    by_cases hl : (y.startTime - origin).toNat < (x.startTime - origin).toNat
    · exact .inl hl
    · obtain ⟨hn, hi⟩ := h.resolve_left hl
      exact .inr ⟨(start hl hn).symm, le_of_lt hi⟩
  · next h =>
    rw [first] at h
    rcases lt_trichotomy (e.prio x.pattern) (e.prio y.pattern) with hp | hp | hp
    · exact absurd (.inl hp) h
    · refine .inr ⟨hp.symm, ?_⟩
      by_cases hl : (x.startTime - origin).toNat < (y.startTime - origin).toNat
      · exact .inl hl
      · have hn : ¬ (y.startTime - origin).toNat < (x.startTime - origin).toNat := fun hn => h (.inr ⟨hp, .inl hn⟩)
        exact .inr ⟨start hn hl, not_lt.1 fun hi => h (.inr ⟨hp, .inr ⟨hl, hi⟩⟩)⟩
    · exact .inl hp

end Env.VictimBefore

/-- R105: a tracker that a start of priority `pr` may evict. -/
def Env.Evictable (e : Env) (pr : Fin 8) (trackers : Vector Tracker 6) (t : SlotIdx) (x : Waiting) : Prop :=
  trackers[t] = .waiting x ∧ e.prio x.pattern < pr

/-- R105: the best victim among the slots `l`. -/
def Env.BestVictim (e : Env) (pr : Fin 8) (trackers : Vector Tracker 6) (origin : Time) (l : List SlotIdx) :
    Option (SlotIdx × Waiting) → Prop
  | none => ∀ t ∈ l, ∀ x, ¬ e.Evictable pr trackers t x
  | some (u, x) => e.Evictable pr trackers u x
      ∧ ∀ t ∈ l, ∀ y, e.Evictable pr trackers t y → e.VictimBefore origin x y

/-- R105: the better of the best victim so far and the tracker in slot `t`. -/
def victimStep (e : Env) (pr : Fin 8) (trackers : Vector Tracker 6) (best : Option (SlotIdx × Waiting)) (t : SlotIdx) :
    Option (SlotIdx × Waiting) :=
  match trackers[t] with
  | .free | .pending _ => best
  | .waiting x => if e.prio x.pattern < pr then
      (match best with
        | none => some (t, x)
        | some (u, y) => if victimFirst e x y then some (t, x) else some (u, y)) else best

theorem victim_eq (e : Env) (pr : Fin 8) (trackers : Vector Tracker 6) :
    victim e pr trackers = (allSlots.foldl (victimStep e pr trackers) none).map Prod.fst := rfl

/-- R105: one slot after the others. -/
theorem Env.BestVictim.next {e : Env} {pr : Fin 8} {trackers : Vector Tracker 6} {origin : Time} {l : List SlotIdx}
    {best : Option (SlotIdx × Waiting)} (hw : ∀ (t : SlotIdx) (x : Waiting), trackers[t] = .waiting x →
      (x.startTime - origin).toNat < 2 ^ 31) (h : e.BestVictim pr trackers origin l best) (t : SlotIdx) :
    e.BestVictim pr trackers origin (t :: l) (victimStep e pr trackers best t) := by
  unfold victimStep
  have skip (hn : ∀ x, ¬ e.Evictable pr trackers t x) : e.BestVictim pr trackers origin (t :: l) best := by
    cases best with
    | none => exact List.forall_mem_cons.2 ⟨hn, h⟩
    | some b => exact ⟨h.1, List.forall_mem_cons.2 ⟨fun y hy => absurd hy (hn y), h.2⟩⟩
  cases ht : trackers[t] with
  | free => exact skip fun x hx => by rw [hx.1] at ht; cases ht
  | pending y => exact skip fun x hx => by rw [hx.1] at ht; cases ht
  | waiting x =>
    have own {y : Waiting} (hy : e.Evictable pr trackers t y) : y = x := by
      have := hy.1.symm.trans ht
      cases this; rfl
    dsimp only
    by_cases hp : e.prio x.pattern < pr
    · rw [if_pos hp]
      cases best with
      | none =>
          exact ⟨⟨ht, hp⟩, List.forall_mem_cons.2 ⟨fun y hy => own hy ▸ .refl, fun u hu y hy => absurd hy (h u hu y)⟩⟩
      | some b =>
        obtain ⟨u, z⟩ := b
        obtain ⟨hz, hb⟩ := h
        have compare := Env.VictimBefore.of_victimFirst (e := e) (hw t x ht) (hw u z hz.1)
        dsimp only
        split
        · next hf =>
          rw [if_pos hf] at compare
          exact ⟨⟨ht, hp⟩, List.forall_mem_cons.2 ⟨fun y hy => own hy ▸ .refl,
            fun v hv y hy => compare.trans (hb v hv y hy)⟩⟩
        · next hf =>
          rw [if_neg hf] at compare
          exact ⟨hz, List.forall_mem_cons.2 ⟨fun y hy => own hy ▸ compare, hb⟩⟩
    · rw [if_neg hp]
      exact skip fun y hy => hp (own hy ▸ hy.2)

/-- R105: of all slots. -/
theorem victim_best {e : Env} {pr : Fin 8} {trackers : Vector Tracker 6} {origin : Time}
    (hw : ∀ (t : SlotIdx) (x : Waiting), trackers[t] = .waiting x → (x.startTime - origin).toNat < 2 ^ 31) :
    ∃ best, victim e pr trackers = best.map Prod.fst ∧ e.BestVictim pr trackers origin allSlots best := by
  have fold (l done : List SlotIdx) (best : Option (SlotIdx × Waiting))
      (h : e.BestVictim pr trackers origin done best) :
      e.BestVictim pr trackers origin (l.reverse ++ done) (l.foldl (victimStep e pr trackers) best) := by
    induction l generalizing done best with
    | nil => exact h
    | cons t l ih =>
      rw [List.foldl_cons, List.reverse_cons, List.append_assoc]
      exact ih (t :: done) _ (h.next hw t)
  have all := fold allSlots [] none nofun
  have mem (t : SlotIdx) : t ∈ allSlots.reverse ++ [] := by simp [allSlots]
  refine ⟨_, victim_eq e pr trackers, ?_⟩
  cases hb : allSlots.foldl (victimStep e pr trackers) none with
  | none => rw [hb] at all; exact fun t _ => all t (mem t)
  | some b => rw [hb] at all; exact ⟨all.1, fun t _ => all.2 t (mem t)⟩

/-- Settles O48: the blocker set by membership, the victim by the fold's invariant (`victim_best`). -/
theorem blockersAndVictims : Obligations.BlockersAndVictims := by
  refine ⟨fun e p q trackers => ?_, fun e pr trackers origin hw => ?_⟩
  · refine (hasPat_blockersOf e p q trackers).trans ?_
    rw [overlaps, bne_iff_ne]
    rfl
  · obtain ⟨best, hv, hb⟩ := victim_best (e := e) (pr := pr) hw
    rw [hv]
    have mem (t : SlotIdx) : t ∈ allSlots := List.mem_finRange t
    cases best with
    | none => exact ⟨iff_of_true rfl fun t x ht hp => hb t (mem t) x ⟨ht, hp⟩, nofun⟩
    | some b =>
      obtain ⟨u, x⟩ := b
      obtain ⟨⟨hu, hp⟩, hb⟩ := hb
      refine ⟨iff_of_false nofun fun h => h u x hu hp, fun v hv => ?_⟩
      cases hv
      exact ⟨x, hu, hp, fun t y ht hp => hb t (mem t) y ⟨ht, hp⟩⟩

end Sys2Proof.Machine
end

section
/-! PROOF. O49, O51 and what an event makes of one tracker in O50 (04_trackers_and_step_matching.md, sections 4.4 to
4.6): the times that an event is judged by, then what each kind of step makes of a press and of a release, then how a
satisfied step gives way to the next. -/

namespace Sys2Proof.Machine

/-! ## Times (R2, R68, R70) -/

theorem before_iff_elapsed (a b : Time) : before a b = true ↔ 1 ≤ (b - a).toNat ∧ (b - a).toNat < 2 ^ 31 := by
  rw [before, Bool.and_eq_true, decide_eq_true_eq, decide_eq_true_eq, elapsed]

/-- R70: the judged time. -/
theorem judgedTime_eq (t t0 : Time) :
    judgedTime t t0 = if 1 ≤ (t0 - t).toNat ∧ (t0 - t).toNat < 2 ^ 31 then t0 else t :=
  if_congr (before_iff_elapsed t t0) rfl rfl

/-- R68: a judged time before the earliest time of a step. -/
theorem beforeEarliest_iff (x : Step) (j t0 : Time) : before j (earliestTime x t0) = true ↔
    1 ≤ (t0 + BitVec.ofNat 32 (x.earliest * 10) - j).toNat
      ∧ (t0 + BitVec.ofNat 32 (x.earliest * 10) - j).toNat < 2 ^ 31 :=
  before_iff_elapsed _ _

/-! ## Events (R70 to R79) -/

section

variable {d : PatDef} {held : ChanSet} {ev : Event} {w : Waiting} {x : Step}

theorem offerEvent_press (hx : d.steps[w.step]? = some x) (hn : ev.cause = .natural) (hp : ev.press = true) :
    offerEvent d held ev w = onPress d x held ev.chan (judgedTime ev.time w.stepStart) w := by
  simp only [offerEvent, hn, hx, hp, if_true]

theorem offerEvent_release (hx : d.steps[w.step]? = some x) (hn : ev.cause = .natural) (hp : ev.press = false) :
    offerEvent d held ev w = onRelease d x held ev.chan (judgedTime ev.time w.stepStart) w := by
  simp only [offerEvent, hn, hx, hp, if_true, Bool.false_eq_true, if_false]

/-- R79: a synthetic release. -/
theorem offerEvent_synthetic (hn : ev.cause ≠ .natural) : offerEvent d held ev w =
    if hasChan d.univ ev.chan then .abort w .channelLost (judgedTime ev.time w.stepStart) else .stay w := by
  simp only [offerEvent, hn, if_false]

end

/-- Settles O49: the press and the release at each of the two kinds of step. -/
theorem chordAndTapStepsTakeEvents : Obligations.ChordAndTapStepsTakeEvents := by
  rintro d held ev w x j early hx hn hj rfl
  have judged : judgedTime ev.time w.stepStart = j := (judgedTime_eq _ _).trans hj.symm
  have press (hp : ev.press = true) := (offerEvent_press (held := held) hx hn hp).trans (by rw [judged])
  have release (hp : ev.press = false) := (offerEvent_release (held := held) hx hn hp).trans (by rw [judged])
  refine ⟨fun hk => ⟨fun hp hc hg => ?_, fun hp hc => ?_, fun hp => ?_⟩,
    fun hk => ⟨fun hp hc hg => ?_, fun hp hc => ?_, fun hp => ?_⟩⟩
  · simp only [press hp, onPress, hk, hc, hg, beforeEarliest_iff, Bool.not_false, Bool.and_true, if_true]
    rfl
  · rcases hc with hc | hc <;> simp [press hp, onPress, hk, hc, unexpected]
  · simp only [release hp, onRelease, hk]
  · simp only [press hp, onPress, hk, hc, hg, beforeEarliest_iff, Option.isNone_none, Bool.and_true, if_true]
    rfl
  · rcases hc with hc | hc <;> simp [press hp, onPress, hk, hc, unexpected]
  · simp only [release hp, onRelease, hk, Bool.and_eq_true, Option.isSome_iff_ne_none]

/-- R74 to R76, R78, R79: what an event makes of a tracker at a HOLD, a LIFT or a QUIET, and a synthetic release of any.
-/
theorem offerEvent_holdLiftQuiet {d : PatDef} {held : ChanSet} {ev : Event} {w : Waiting} {x : Step} {j early : Time}
    (hx : d.steps[w.step]? = some x)
    (hj : j =
        (if 1 ≤ (w.stepStart - ev.time).toNat ∧ (w.stepStart - ev.time).toNat < 2 ^ 31 then w.stepStart else ev.time))
    (he : early = w.stepStart + BitVec.ofNat 32 (x.earliest * 10)) :
    (ev.cause ≠ .natural →
      offerEvent d held ev w = if hasChan d.univ ev.chan then .abort w .channelLost j else .stay w)
    ∧ (ev.cause = .natural →
      ((x.kind = .hold ∨ x.kind = .lift) → ev.press = true →
        offerEvent d held ev w = if d.header.strict then .abort w .foreign j else .stay w)
      ∧ (x.kind = .hold → ev.press = false →
        offerEvent d held ev w = if hasChan x.channels ev.chan then .abort w .holdLost j else .stay w)
      ∧ (x.kind = .lift → ev.press = false →
        offerEvent d held ev w =
          if hasChan x.channels ev.chan = true ∧ x.channels &&& held = 0 then
            (if 1 ≤ (early - j).toNat ∧ (early - j).toNat < 2 ^ 31 then .abort w .early j else advance d held j w)
          else .stay w)
      ∧ (x.kind = .quiet → ev.press = false → offerEvent d held ev w = .stay w)
      ∧ (x.kind = .quiet → ev.press = true →
        offerEvent d held ev w =
          if hasChan (if x.channels = 0 then d.univ else x.channels) ev.chan then .abort w .interrupted j
          else if d.header.strict then .abort w .foreign j else .stay w)) := by
  subst he
  have judged : judgedTime ev.time w.stepStart = j := (judgedTime_eq _ _).trans hj.symm
  refine ⟨fun hn => (offerEvent_synthetic hn).trans (by rw [judged]), fun hn => ?_⟩
  have press (hp : ev.press = true) := (offerEvent_press (held := held) hx hn hp).trans (by rw [judged])
  have release (hp : ev.press = false) := (offerEvent_release (held := held) hx hn hp).trans (by rw [judged])
  refine ⟨fun hk hp => ?_, fun hk hp => ?_, fun hk hp => ?_, fun hk hp => ?_, fun hk hp => ?_⟩
  · rcases hk with hk | hk <;> simp only [press hp, onPress, hk, unexpected]
  · simp only [release hp, onRelease, hk]
  · simp only [release hp, onRelease, hk, beforeEarliest_iff]
    refine if_congr ?_ rfl rfl
    simp [overlaps]
  · simp only [release hp, onRelease, hk]
  · simp only [press hp, onPress, hk, quietSet, unexpected]
    rfl

/-! ## A satisfied step (R68, R69) -/

theorem advance_last {d : PatDef} {held : ChanSet} {t : Time} {w : Waiting} (h : d.steps.length ≤ w.step + 1) :
    advance d held t w = .candidate w t := by
  rw [advance, List.drop_eq_nil_of_le h, enterSteps]

/-- R68, R69: the next step becomes current with what its initial view finds. -/
theorem advance_next {d : PatDef} {held : ChanSet} {t : Time} {w : Waiting} {x : Step}
    (hx : d.steps[w.step + 1]? = some x) :
    advance d held t w = match initialView x held t (w.onStep (w.step + 1) t) with
      | .waits v => .stay v
      | .lost v => .abort v .holdLost t
      | .satisfied v => if x.earliest = 0 then advance d held t v else .abort v .early t := by
  obtain ⟨hl, hx⟩ := List.getElem?_eq_some_iff.1 hx
  have steps : d.steps.drop (w.step + 1) = x :: d.steps.drop (w.step + 1 + 1) := by
    rw [List.drop_eq_getElem_cons hl, hx]
  obtain ⟨-, -, -, step⟩ := initialView_record x held t (w.onStep (w.step + 1) t)
  rw [advance, steps, enterSteps]
  cases hv : initialView x held t (w.onStep (w.step + 1) t) with
  | waits v => rfl
  | lost v => rfl
  | satisfied v =>
    rw [hv] at step
    have : v.step = w.step + 1 := step
    simp only [advance, this]

/-- Settles O51: `advance_last`, and `advance_next` with the initial view of each kind. -/
theorem satisfiedStepsGiveWay : Obligations.SatisfiedStepsGiveWay := by
  refine fun d held t w => ⟨advance_last, ?_⟩
  rintro x n late span hx hn rfl rfl
  have next := advance_next (held := held) (t := t) hx
  rw [show w.onStep (w.step + 1) t = n from hn.symm] at next
  rw [next]
  refine ⟨fun hk h0 hne => ?_, fun hk h0 hne => ?_, fun hk => ?_, fun hk => ?_, fun hk h0 => ?_, fun hk => ?_,
      fun h => ?_⟩
  · simp only [initialView, hk, h0, if_neg (Ne.symm hne), if_true]
    rfl
  · simp only [initialView, hk, if_neg hne, if_neg h0]
    rfl
  · simp only [initialView, hk]
    rfl
  · by_cases hs : x.channels &&& held = x.channels
    · simp only [initialView, hk, subset, hs, beq_self_eq_true, if_true]
      rfl
    · simp only [initialView, hk, subset, beq_iff_eq, if_neg hs]
  · simp only [initialView, hk, overlaps, bne_iff_ne.2 h0, if_true]
    rfl
  · simp only [initialView, hk]
    rfl
  · refine ⟨_, rfl, ?_⟩
    rcases h with ⟨hk, hc⟩ | ⟨hk, hc⟩
    · simp only [initialView, hk, hc, if_true]
    · simp only [initialView, hk, overlaps, hc, bne_self_eq_false, Bool.false_eq_true, if_false, reduceCtorEq]

end Sys2Proof.Machine
end

section
/-! PROOF. O46 and O45: due times (04_trackers_and_step_matching.md, sections 4.7 to 4.9). Which due times there are,
and which is taken first; that each one taken leaves fewer to take; then the stages of an event, and DUE_TIME_TAKEN. -/

namespace Sys2Proof.Machine

/-! ## Due times (R83) -/

/-- R83: whether a due time is satisfying; OVERALL_DUE (no kind) is not. -/
def satisfyingKind (kind : Option DueKind) : Bool :=
  match kind with
  | none => false
  | some k => k.satisfying

theorem satisfyingKind_iff (kind : Option DueKind) :
    satisfyingKind kind = true ↔ kind = some .holdEnd ∨ kind = some .quietEnd := by
  cases kind with
  | none => simp [satisfyingKind]
  | some k => cases k <;> simp [satisfyingKind, DueKind.satisfying]

theorem dueAt_iff (sat : Bool) (d t : Time) :
    dueAt sat d t = true ↔ (t - d).toNat < 2 ^ 31 ∧ (sat = false → t ≠ d) := by
  have zero : (t - d).toNat = 0 ↔ t = d := by
    rw [← BitVec.toNat_inj.trans sub_eq_zero]
    rfl
  cases sat with
  | true =>
    simp only [dueAt, reached, Bool.or_eq_true, beq_iff_eq, before_iff_elapsed, if_true, Bool.true_eq_false,
        false_imp_iff, and_true]
    rw [eq_comm, ← zero]
    omega
  | false =>
    simp only [dueAt, passed, before_iff_elapsed, ne_eq, ← zero, true_imp_iff, Bool.false_eq_true, if_false]
    omega

/-- R83: a due time of the tracker in slot `i` whose effective instant is at or before `t`. -/
def DueIn (t : Time) (trackers : Vector Tracker 6) (i : SlotIdx) (kind : Option DueKind) (d : Time) : Prop :=
  ∃ x : Waiting, trackers[i] = .waiting x
    ∧ (match kind with
      | none => x.overallDue = some d
      | some k => x.stepDue = some (k, d))
    ∧ dueAt (satisfyingKind kind) d t = true

theorem State.dueNow_iff (s : State) (i : SlotIdx) (kind : Option DueKind) (d : Time) :
    s.DueNow i kind d ↔ DueIn s.time s.trackers i kind d := by
  refine exists_congr fun x => and_congr_right fun _ => and_congr_right fun _ => ?_
  rw [dueAt_iff, ← Bool.not_eq_true, satisfyingKind_iff]
  refine and_congr_right fun _ => ?_
  simp only [not_or, and_imp, ne_eq]

/-- R83: the entry of a due time among those that may be taken. -/
def dueEntry (t : Time) (i : SlotIdx) (p : PatIdx) (kind : Option DueKind) (d : Time) : Due :=
  { slot := i, pattern := p, kind := kind, at' := d, rank := dueRank (satisfyingKind kind) d t }

/-- STEP_DUE of a record, where it may be taken. -/
def stepDues (t : Time) (i : SlotIdx) (x : Waiting) : List Due :=
  match x.stepDue with
  | none => []
  | some (k, d) => if dueAt k.satisfying d t then [dueEntry t i x.pattern (some k) d] else []

/-- OVERALL_DUE of a record, where it may be taken. -/
def overallDues (t : Time) (i : SlotIdx) (x : Waiting) : List Due :=
  match x.overallDue with
  | none => []
  | some d => if dueAt false d t then [dueEntry t i x.pattern none d] else []

theorem slotDues_waiting {t : Time} {trackers : Vector Tracker 6} {i : SlotIdx} {x : Waiting}
    (hx : trackers[i] = .waiting x) : slotDues t trackers i = stepDues t i x ++ overallDues t i x := by
  simp only [slotDues, hx]
  rfl

theorem mem_stepDues {t : Time} {i : SlotIdx} {x : Waiting} {due : Due} : due ∈ stepDues t i x ↔
    ∃ k d, x.stepDue = some (k, d) ∧ dueAt k.satisfying d t = true ∧ due = dueEntry t i x.pattern (some k) d := by
  unfold stepDues
  cases x.stepDue with
  | none => simp
  | some kd =>
    obtain ⟨k, d⟩ := kd
    by_cases h : dueAt k.satisfying d t = true <;> simp [h]

theorem mem_overallDues {t : Time} {i : SlotIdx} {x : Waiting} {due : Due} : due ∈ overallDues t i x ↔
    ∃ d, x.overallDue = some d ∧ dueAt false d t = true ∧ due = dueEntry t i x.pattern none d := by
  unfold overallDues
  cases x.overallDue with
  | none => simp
  | some d => by_cases h : dueAt false d t = true <;> simp [h]

/-- R83: the due times of a slot that may be taken. -/
theorem mem_slotDues {t : Time} {trackers : Vector Tracker 6} {i : SlotIdx} {due : Due} :
    due ∈ slotDues t trackers i ↔ ∃ x kind d, trackers[i] = .waiting x ∧ DueIn t trackers i kind d
      ∧ due = dueEntry t i x.pattern kind d := by
  cases hx : trackers[i] with
  | free => simp [slotDues, hx]
  | pending y => simp [slotDues, hx]
  | waiting x =>
    rw [slotDues_waiting hx, List.mem_append, mem_stepDues, mem_overallDues]
    constructor
    · rintro (⟨k, d, hd, ha, rfl⟩ | ⟨d, hd, ha, rfl⟩)
      · exact ⟨x, some k, d, rfl, ⟨x, hx, hd, ha⟩, rfl⟩
      · exact ⟨x, none, d, rfl, ⟨x, hx, hd, ha⟩, rfl⟩
    · rintro ⟨y, kind, d, hy, ⟨z, hz, hd, ha⟩, rfl⟩
      cases hy
      cases hx.symm.trans hz
      cases kind with
      | none => exact .inr ⟨d, hd, ha, rfl⟩
      | some k => exact .inl ⟨k, d, hd, ha, rfl⟩

/-! ## The due time that is next (R85) -/

/-- R85: the earlier of the earliest due time so far and another. -/
def earlier (e : Env) (best : Option Due) (d : Due) : Option Due :=
  match best with
  | none => some d
  | some b => if dueFirst e d b then some d else some b

theorem nextDue_eq (e : Env) (t : Time) (w : Recog) :
    nextDue e t w = (allSlots.flatMap (slotDues t w.trackers)).foldl (earlier e) none := rfl

theorem foldl_earlier_some (e : Env) (l : List Due) (b : Due) :
    ∃ d ∈ b :: l, l.foldl (earlier e) (some b) = some d := by
  induction l generalizing b with
  | nil => exact ⟨b, List.mem_cons_self, rfl⟩
  | cons a l ih =>
    rw [List.foldl_cons, earlier]
    split
    · obtain ⟨d, hd, he⟩ := ih a
      exact ⟨d, List.mem_cons_of_mem _ hd, he⟩
    · obtain ⟨d, hd, he⟩ := ih b
      refine ⟨d, ?_, he⟩
      simp only [List.mem_cons] at hd ⊢
      tauto

theorem foldl_earlier_none {e : Env} {l : List Due} (h : l.foldl (earlier e) none = none) : l = [] := by
  cases l with
  | nil => rfl
  | cons a l =>
    obtain ⟨d, -, he⟩ := foldl_earlier_some e l a
    rw [List.foldl_cons, earlier, he] at h
    cases h

/-- R85: of a list, the due time that comes before all others in it. -/
theorem foldl_earlier_first {e : Env} {l m : List Due} {d : Due} (hl : ∀ b ∈ l, dueFirst e d b = true)
    (hm : ∀ b ∈ m, dueFirst e b d = false) : (l ++ d :: m).foldl (earlier e) none = some d := by
  have after : m.foldl (earlier e) (some d) = some d := by
    induction m with
    | nil => rfl
    | cons a m ih =>
      rw [List.foldl_cons, earlier, hm a List.mem_cons_self]
      exact ih fun b hb => hm b (List.mem_cons_of_mem _ hb)
  have first : earlier e (l.foldl (earlier e) none) d = some d := by
    cases l with
    | nil => rfl
    | cons a l =>
      obtain ⟨b, hb, he⟩ := foldl_earlier_some e l a
      rw [List.foldl_cons, earlier, he, earlier, hl b hb, if_pos rfl]
  rw [List.foldl_append, List.foldl_cons, first, after]

theorem mem_dues {t : Time} {trackers : Vector Tracker 6} {due : Due} :
    due ∈ allSlots.flatMap (slotDues t trackers) ↔ ∃ i, due ∈ slotDues t trackers i := by
  simp [allSlots]

/-- R83: none is taken exactly where none may be. -/
theorem nextDue_none {e : Env} {t : Time} {w : Recog} :
    nextDue e t w = none ↔ ∀ i kind d, ¬ DueIn t w.trackers i kind d := by
  constructor
  · rintro h i kind d ⟨x, hx, hd⟩
    have empty := foldl_earlier_none (h ▸ (nextDue_eq e t w).symm)
    have : dueEntry t i x.pattern kind d ∈ allSlots.flatMap (slotDues t w.trackers) :=
      mem_dues.2 ⟨i, mem_slotDues.2 ⟨x, kind, d, hx, ⟨x, hx, hd⟩, rfl⟩⟩
    rw [empty] at this
    cases this
  · intro h
    have empty : allSlots.flatMap (slotDues t w.trackers) = [] := by
      refine List.eq_nil_iff_forall_not_mem.2 fun due hd => ?_
      obtain ⟨i, hi⟩ := mem_dues.1 hd
      obtain ⟨x, kind, d, -, hdue, -⟩ := mem_slotDues.1 hi
      exact h i kind d hdue
    rw [nextDue_eq, empty]
    rfl

/-- R83: what is taken may be taken. -/
theorem nextDue_some {e : Env} {t : Time} {w : Recog} {due : Due} (h : nextDue e t w = some due) :
    ∃ i x kind d, w.trackers[i] = .waiting x ∧ DueIn t w.trackers i kind d ∧ due = dueEntry t i x.pattern kind d := by
  have member : due ∈ allSlots.flatMap (slotDues t w.trackers) := by
    rw [nextDue_eq] at h
    generalize allSlots.flatMap (slotDues t w.trackers) = l at h
    cases l with
    | nil => cases h
    | cons a l =>
      obtain ⟨b, hb, he⟩ := foldl_earlier_some e l a
      rw [List.foldl_cons, earlier, he] at h
      cases h
      exact hb
  obtain ⟨i, hi⟩ := mem_dues.1 member
  exact ⟨i, mem_slotDues.1 hi⟩

/-! ## Each due time taken leaves fewer (R84) -/

/-- The most due times that a tracker can still have taken. -/
def slotFuel (e : Env) (x : Tracker) : Nat :=
  match x with
  | .waiting x => 1 + ((e.pat x.pattern).steps.length - x.step)
  | .free | .pending _ => 0

theorem dueFuel_eq (e : Env) (w : Recog) : dueFuel e w = (allSlots.map fun t => slotFuel e w.trackers[t]).sum := by
  unfold dueFuel
  refine congrArg List.sum (List.map_congr_left fun t _ => ?_)
  cases w.trackers[t] <;> rfl

theorem dueFuel_lt {e : Env} {v w : Recog} {t : SlotIdx} (ht : slotFuel e v.trackers[t] < slotFuel e w.trackers[t])
    (h : ∀ u : SlotIdx, slotFuel e v.trackers[u] ≤ slotFuel e w.trackers[u]) : dueFuel e v < dueFuel e w := by
  rw [dueFuel_eq, dueFuel_eq]
  exact List.sum_lt_sum _ _ (fun u _ => h u) ⟨t, List.mem_finRange t, ht⟩

/-- Endings and completions leave no slot more to take. -/
theorem fuel_closed (e : Env) (bound : SlotIdx → Nat) :
    EndClosed e fun w => ∀ u : SlotIdx, slotFuel e w.trackers[u] ≤ bound u := by
  have freed {w : Recog} {t : SlotIdx} (h : ∀ u : SlotIdx, slotFuel e w.trackers[u] ≤ bound u) (u : SlotIdx) :
      slotFuel e (w.trackers.set t .free)[u] ≤ bound u := by
    rw [getElem_set_fin]
    split
    · exact Nat.zero_le _
    · exact h u
  exact {
    ends := fun t reason time st w _ h => by rw [endSlot_trackers]; exact freed h
    completes := fun t p te deferred time w _ h => by rw [completeSlot_trackers]; exact freed h
    unblocks := fun gone w h u => by
      rw [getElem_ofFn_fin]
      refine le_of_eq_of_le ?_ (h u)
      cases w.trackers[u] <;> rfl
    claims := fun _ _ h => h }

/-- What ends frees its slot, and gives no other slot more to take. -/
theorem fuel_freed {e : Env} {v w : Recog} {t : SlotIdx} (hv : v.trackers = w.trackers.set t .free) (u : SlotIdx) :
    slotFuel e v.trackers[u] ≤ if u = t then 0 else slotFuel e w.trackers[u] := by
  rw [hv, getElem_set_fin]
  by_cases hu : u = t
  · simp [hu, slotFuel]
  · simp [hu, Ne.symm hu]

theorem fuel_endTracker (e : Env) {t : SlotIdx} {reason : Reason} {time : Time} {st : PatState} {w : Recog} {p : PatIdx}
    (hp : w.trackers[t].pattern = some p) (u : SlotIdx) :
    slotFuel e (endTracker e t reason time st w).trackers[u] ≤ if u = t then 0 else slotFuel e w.trackers[u] := by
  rw [endTracker_eq hp]
  have c := fuel_closed e fun u => if u = t then 0 else slotFuel e w.trackers[u]
  exact releaseBy_keeps c.unblocks _ _ (fun u v hv => c.complete _ _ _ _ _ v hv) _
    (fuel_freed (endSlot_trackers ..)) u

theorem fuel_complete (e : Env) {t : SlotIdx} {te time : Time} {deferred : Bool} {w : Recog} {p : PatIdx}
    (hp : w.trackers[t].pattern = some p) (u : SlotIdx) :
    slotFuel e (complete e cascadeDepth t te deferred time w).trackers[u] ≤
      if u = t then 0 else slotFuel e w.trackers[u] := by
  have c := fuel_closed e fun u => if u = t then 0 else slotFuel e w.trackers[u]
  have own := fuel_freed (e := e) (completeSlot_trackers e t p te deferred time w)
  rw [complete_eq hp]
  refine releaseBy_keeps c.unblocks _ _ (fun u v hv => c.complete _ _ _ _ _ v hv) _ ?_ u
  unfold completionEnds
  dsimp only
  split
  · exact c.cancelGroup _ _ _ _ (c.claims _ _ own)
  · exact own

theorem fuel_resolve (e : Env) {t : SlotIdx} {te : Time} {w : Recog} {x : Waiting} (hx : w.trackers[t] = .waiting x)
    (u : SlotIdx) : slotFuel e (resolve e t te w).trackers[u] ≤ if u = t then 0 else slotFuel e w.trackers[u] := by
  rw [resolve_waiting hx]
  split
  · simp only [Recog.setTracker_trackers, getElem_set_fin]
    by_cases hu : u = t
    · simp [hu, slotFuel]
    · simp [hu, Ne.symm hu]
  · exact fuel_complete e (by rw [hx]; rfl) u

/-- R69: a tracker that stays is on a later step of its pattern. -/
theorem enterSteps_stay {held : ChanSet} {t : Time} {steps : List Step} {idx : Nat} {w y : Waiting}
    (h : enterSteps held t steps idx w = .stay y) : idx ≤ y.step ∧ y.step < idx + steps.length := by
  induction steps generalizing idx w with
  | nil => cases h
  | cons x rest ih =>
    have step := (initialView_record x held t (w.onStep idx t)).2.2.2
    rw [enterSteps] at h
    cases hv : initialView x held t (w.onStep idx t) with
    | waits v =>
      rw [hv] at h step
      cases h
      have : y.step = idx := step
      simp only [List.length_cons]
      omega
    | lost v => rw [hv] at h; cases h
    | satisfied v =>
      rw [hv] at h
      dsimp only at h
      split at h
      · have := ih h
        simp only [List.length_cons]
        omega
      · cases h

theorem advance_stay {d : PatDef} {held : ChanSet} {t : Time} {w y : Waiting} (h : advance d held t w = .stay y) :
    w.step < y.step ∧ w.step < d.steps.length ∧ y.pattern = w.pattern := by
  obtain ⟨h1, h2⟩ := enterSteps_stay h
  have hm := advance_moves d held t w
  rw [h] at hm
  rw [List.length_drop] at h2
  exact ⟨h1, by omega, hm.pattern⟩

/-- R84, R86: a due time that is taken leaves fewer. -/
theorem takeDue_fuel {e : Env} {t : Time} {i : SlotIdx} {kind : Option DueKind} {d : Time} {w : Recog} {x : Waiting}
    (hx : w.trackers[i] = .waiting x) : dueFuel e (takeDue e (dueEntry t i x.pattern kind d) w) < dueFuel e w := by
  have some_fuel : 0 < slotFuel e w.trackers[i] := by
    rw [hx]
    simp only [slotFuel]
    omega
  have ended {v : Recog} (h : ∀ u : SlotIdx, slotFuel e v.trackers[u] ≤ if u = i then 0 else slotFuel e w.trackers[u]) :
      dueFuel e v < dueFuel e w := by
    refine dueFuel_lt (t := i) (lt_of_le_of_lt ((h i).trans_eq (if_pos rfl)) some_fuel) fun u => (h u).trans ?_
    split
    · exact Nat.zero_le _
    · exact le_refl _
  have bound : w.trackers[i].pattern = some x.pattern := by rw [hx]; rfl
  simp only [takeDue, dueEntry, hx]
  cases kind with
  | none => exact ended (fuel_endTracker e bound)
  | some k =>
    dsimp only
    have here (y : Waiting) : (w.setTracker i (.waiting y)).trackers[i] = .waiting y := by
      rw [Recog.setTracker_trackers, getElem_set_fin, if_pos rfl]
    have there (y : Waiting) (u : SlotIdx) (hu : u ≠ i) :
        (w.setTracker i (.waiting y)).trackers[u] = w.trackers[u] := by
      rw [Recog.setTracker_trackers, getElem_set_fin, if_neg (Ne.symm hu)]
    have settled (y : Waiting) {v : Recog} (h : ∀ u : SlotIdx, slotFuel e v.trackers[u] ≤
        if u = i then 0 else slotFuel e (w.setTracker i (.waiting y)).trackers[u]) : dueFuel e v < dueFuel e w := by
      refine ended fun u => (h u).trans ?_
      by_cases hu : u = i
      · rw [if_pos hu, if_pos hu]
      · rw [if_neg hu, if_neg hu, there y u hu]
    cases hr : takeStepDue (e.pat x.pattern) w.held k d x with
    | abort y reason time => exact settled y (fuel_endTracker e (by rw [here]; rfl))
    | candidate y te => exact settled y (fuel_resolve e (here y))
    | stay y =>
      have adv : advance (e.pat x.pattern) w.held d x = .stay y := by
        cases k
        case holdEnd | quietEnd => exact hr
        all_goals cases hr
      obtain ⟨later, within, pattern⟩ := advance_stay adv
      have less : slotFuel e (.waiting y) < slotFuel e (.waiting x) := by
        simp only [slotFuel, pattern]
        omega
      refine dueFuel_lt (t := i) ?_ fun u => ?_
      · show slotFuel e (w.setTracker i (.waiting y)).trackers[i] < _
        rw [here, hx]
        exact less
      · show slotFuel e (w.setTracker i (.waiting y)).trackers[u] ≤ _
        by_cases hu : u = i
        · rw [hu, here, hx]
          exact le_of_lt less
        · rw [there y u hu]

/-- R84: stage 1 takes due times until none is left. -/
theorem takeDues_all {e : Env} {t : Time} {n : Nat} {w : Recog} (h : dueFuel e w ≤ n) :
    nextDue e t (takeDues e t n w) = none := by
  induction n generalizing w with
  | zero =>
    rw [takeDues, nextDue_none]
    rintro i kind d ⟨x, hx, -⟩
    have := takeDue_fuel (t := t) (kind := kind) (d := d) (e := e) hx
    omega
  | succ n ih =>
    rw [takeDues]
    cases hd : nextDue e t w with
    | none => exact hd
    | some due =>
      obtain ⟨i, x, kind, d, hx, -, rfl⟩ := nextDue_some hd
      exact ih (Nat.le_of_lt_succ ((takeDue_fuel hx).trans_le h))

/-! ## The stages of an event (R84, R87 to R90) -/

/-- R62, R87, R103: stage 2 in full. -/
theorem stage2_eq (e : Env) (ev : Event) (v : Recog) {held : ChanSet} (hh : held = heldAfter ev v.held) :
    stage2 e ev v = { v with
      held := held
      pstate := Vector.ofFn fun p : PatIdx =>
        if ev.press = false ∧ v.pstate[p] = .locked ∧ e.defs[p].univ &&& held = 0 then PatState.ready
        else v.pstate[p] } := by
  subst hh
  unfold stage2 heldAfter
  cases hp : ev.press with
  | true =>
    simp only [if_true, Bool.true_eq_false, false_and, if_false]
    refine Recog.eq_of (patStates_ext fun p => ?_) rfl rfl rfl rfl rfl rfl rfl
    rw [getElem_ofFn_fin]
  | false =>
    simp only [Bool.false_eq_true, if_false, true_and]
    refine Recog.eq_of (patStates_ext fun p => ?_) rfl rfl rfl rfl rfl rfl rfl
    simp only [getElem_ofFn_fin, unlock, overlaps, Bool.and_eq_true, decide_eq_true_eq, Bool.not_eq_true',
        bne_eq_false_iff_eq]
    rfl

/-- Settles O46: the stages by `stage2_eq`, stage 1 by `takeDues_all`: its fuel takes every due time there is. -/
theorem stageOneTakesEveryDueTimeBefore : Obligations.StageOneTakesEveryDueTimeBefore := by
  constructor
  · rintro e ev w v held offered hv hh ho
    have two := stage2_eq e ev v (held := held) hh
    subst hv
    rw [← two] at ho
    subst ho
    rfl
  · intro e ev w t x hx
    have taken := nextDue_none.1 (takeDues_all (e := e) (t := ev.time) (w := w) (le_refl _))
    have free (kind : Option DueKind) (d : Time) (hd : match kind with
        | none => x.overallDue = some d
        | some k => x.stepDue = some (k, d)) : dueAt (satisfyingKind kind) d ev.time = false :=
      Bool.eq_false_of_not_eq_true fun ha => taken t kind d ⟨x, hx, hd, ha⟩
    have aborting {d : Time} (h : dueAt false d ev.time = false) :
        ¬ (1 ≤ (ev.time - d).toNat ∧ (ev.time - d).toNat < 2 ^ 31) := by
      rw [← before_iff_elapsed]
      exact Bool.not_eq_true _ ▸ h
    refine ⟨fun k d hd => ?_, fun d hd => aborting (free none d hd)⟩
    have := free (some k) d hd
    split
    · next hk =>
      have sat : satisfyingKind (some k) = true := (satisfyingKind_iff _).2 (by simpa using hk)
      rw [sat, ← Bool.not_eq_true, dueAt_iff] at this
      exact fun h => this ⟨h, nofun⟩
    · next hk =>
      have sat : satisfyingKind (some k) = false :=
        Bool.eq_false_of_not_eq_true fun h => hk (by simpa using (satisfyingKind_iff _).1 h)
      rw [sat] at this
      exact aborting this

end Sys2Proof.Machine
end

section
/-! PROOF. O45: DUE_TIME_TAKEN (04_trackers_and_step_matching.md, sections 4.7 and 4.8). First that the due time before
all others is the one taken, then what taking one does, in any trackers and with one tracker alone. -/

namespace Sys2Proof.Machine

/-! ## The order of due times (R83, R85) -/

theorem dueFirst_iff (e : Env) (a b : Due) : dueFirst e a b = true ↔ b.rank < a.rank
    ∨ a.rank = b.rank ∧ (e.prio b.pattern < e.prio a.pattern
      ∨ e.prio a.pattern = e.prio b.pattern ∧ a.pattern < b.pattern) := by
  simp [dueFirst]

theorem dueFirst_asymm {e : Env} {a b : Due} (h : dueFirst e a b = true) : dueFirst e b a = false := by
  refine Bool.eq_false_of_not_eq_true fun k => ?_
  rw [dueFirst_iff] at h k
  rcases h with h | ⟨hr, h⟩
  · rcases k with k | ⟨k, -⟩ <;> omega
  · rcases k with k | ⟨-, k⟩
    · omega
    · rcases h with h | ⟨hp, h⟩
      · rcases k with k | ⟨k, -⟩
        · exact lt_asymm h k
        · exact lt_irrefl _ (k ▸ h)
      · rcases k with k | ⟨-, k⟩
        · exact lt_irrefl _ (hp ▸ k)
        · exact lt_asymm h k

/-- R83: the rank of a due time that may be taken grows with the time since its value, and is greater for a satisfying
one than for an aborting one of the same value. -/
theorem dueRank_eq {sat : Bool} {d t : Time} (h : dueAt sat d t = true) :
    dueRank sat d t = 2 * (t - d).toNat - (if sat then 0 else 1) ∧ (sat = false → 1 ≤ (t - d).toNat) := by
  refine ⟨rfl, fun hs => ?_⟩
  subst hs
  exact ((before_iff_elapsed d t).1 h).1

/-- R85: the order of the statements is that of the matcher; the two due times of one tracker are told apart by their
places in the list. -/
theorem dueFirst_of_before {s : State} {t u : SlotIdx} {kind kind' : Option DueKind} {d d' : Time} {x y : Waiting}
    (hx : s.trackers[t] = .waiting x) (hy : s.trackers[u] = .waiting y)
    (hd : dueAt (satisfyingKind kind) d s.time = true) (hd' : dueAt (satisfyingKind kind') d' s.time = true)
    (h : s.DueBefore t kind d u kind' d') :
    dueFirst s.env (dueEntry s.time t x.pattern kind d) (dueEntry s.time u y.pattern kind' d') = true
      ∨ t = u ∧ kind ≠ none ∧ kind' = none
        ∧ dueFirst s.env (dueEntry s.time u y.pattern kind' d') (dueEntry s.time t x.pattern kind d) = false := by
  obtain ⟨hr, h1⟩ := dueRank_eq hd
  obtain ⟨hr', h1'⟩ := dueRank_eq hd'
  rw [dueFirst_iff]
  simp only [dueEntry, hr, hr']
  rcases h with h | ⟨rfl, hs, hn⟩ | ⟨rfl, hs, h⟩
  · refine .inl (.inl ?_)
    cases h0 : satisfyingKind kind <;> cases h0' : satisfyingKind kind'
    all_goals simp only [h0, h0', Bool.false_eq_true, if_false, if_true, true_imp_iff] at h1 h1' ⊢; omega
  · have sat := (satisfyingKind_iff kind).2 hs
    have sat' : satisfyingKind kind' = false :=
      Bool.eq_false_of_not_eq_true fun h => by rcases (satisfyingKind_iff _).1 h with h | h <;> tauto
    have := h1' sat'
    refine .inl (.inl ?_)
    simp only [sat, sat', if_true, Bool.false_eq_true, if_false]
    omega
  · have same : satisfyingKind kind = satisfyingKind kind' := by
      rw [Bool.eq_iff_iff, satisfyingKind_iff, satisfyingKind_iff]
      exact hs
    rcases h with ⟨rfl, hk, hk'⟩ | ⟨p, hp, q, hq, h⟩
    · refine .inr ⟨rfl, hk, hk', Bool.eq_false_of_not_eq_true ?_⟩
      cases hx.symm.trans hy
      rw [dueFirst_iff]
      simp [same]
    · rw [hx] at hp
      rw [hy] at hq
      cases hp
      cases hq
      exact .inl (.inr ⟨by rw [same], h.imp_right fun ⟨he, hl⟩ => ⟨he.symm, hl⟩⟩)

/-- R85: the due time that comes before all others is next. -/
theorem nextDue_first {s : State} {t : SlotIdx} {x : Waiting} {kind : Option DueKind} {d : Time}
    (hx : s.trackers[t] = .waiting x) (hd : s.DueNow t kind d)
    (h : ∀ (u : SlotIdx) (kind' : Option DueKind) (d' : Time), s.DueNow u kind' d' → (u, kind') ≠ (t, kind) →
      s.DueBefore t kind d u kind' d') :
    nextDue s.env s.time s.recog = some (dueEntry s.time t x.pattern kind d) := by
  obtain ⟨x', hx', value, due⟩ := (s.dueNow_iff t kind d).1 hd
  cases hx.symm.trans hx'
  have order {u : SlotIdx} {y : Waiting} {kind' : Option DueKind} {d' : Time} (hy : s.trackers[u] = .waiting y)
      (hd' : DueIn s.time s.trackers u kind' d') (hne : (u, kind') ≠ (t, kind)) :=
    dueFirst_of_before hx hy due hd'.choose_spec.2.2 (h u kind' d' ((s.dueNow_iff ..).2 hd') hne)
  have elsewhere {u : SlotIdx} (hu : u ≠ t) {b : Due} (hb : b ∈ slotDues s.time s.trackers u) :
      dueFirst s.env (dueEntry s.time t x.pattern kind d) b = true := by
    obtain ⟨y, kind', d', hy, hd', rfl⟩ := mem_slotDues.1 hb
    exact (order hy hd' fun e => hu (congrArg Prod.fst e)).resolve_right fun h => hu h.1.symm
  obtain ⟨l, m, split⟩ := List.append_of_mem (List.mem_finRange t)
  have nodup := split ▸ List.nodup_finRange 6
  have hl {u : SlotIdx} (hu : u ∈ l) : u ≠ t := by
    rintro rfl
    exact (List.nodup_append.1 nodup).2.2 u hu u List.mem_cons_self rfl
  have hm {u : SlotIdx} (hu : u ∈ m) : u ≠ t := by
    rintro rfl
    exact (List.nodup_cons.1 (List.nodup_append.1 nodup).2.1).1 hu
  have left : ∀ b ∈ l.flatMap (slotDues s.time s.trackers),
      dueFirst s.env (dueEntry s.time t x.pattern kind d) b = true := by
    intro b hb
    obtain ⟨u, hu, hb⟩ := List.mem_flatMap.1 hb
    exact elsewhere (hl hu) hb
  have right : ∀ b ∈ m.flatMap (slotDues s.time s.trackers),
      dueFirst s.env b (dueEntry s.time t x.pattern kind d) = false := by
    intro b hb
    obtain ⟨u, hu, hb⟩ := List.mem_flatMap.1 hb
    exact dueFirst_asymm (elsewhere (hm hu) hb)
  have all : allSlots.flatMap (slotDues s.time s.trackers) = l.flatMap (slotDues s.time s.trackers)
      ++ (stepDues s.time t x ++ overallDues s.time t x ++ m.flatMap (slotDues s.time s.trackers)) := by
    rw [← slotDues_waiting hx, ← List.flatMap_cons, ← List.flatMap_append, ← split]
    rfl
  rw [nextDue_eq]
  show (allSlots.flatMap (slotDues s.time s.trackers)).foldl _ _ = _
  rw [all]
  cases kind with
  | none =>
    have own : overallDues s.time t x = [dueEntry s.time t x.pattern none d] := by
      have due : dueAt false d s.time = true := due
      simp only [overallDues, value, due, if_true]
    rw [own, List.append_assoc, List.singleton_append, ← List.append_assoc]
    refine foldl_earlier_first (fun b hb => (List.mem_append.1 hb).elim (left b) fun hb => ?_) right
    obtain ⟨k, d', hd', ha, rfl⟩ := mem_stepDues.1 hb
    exact (order (kind' := some k) hx ⟨x, hx, hd', ha⟩ (by simp)).resolve_right fun h => h.2.1 rfl
  | some k =>
    have own : stepDues s.time t x = [dueEntry s.time t x.pattern (some k) d] := by
      have due : dueAt k.satisfying d s.time = true := due
      simp only [stepDues, value, due, if_true]
    rw [own, List.append_assoc, List.singleton_append]
    refine foldl_earlier_first left fun b hb => (List.mem_append.1 hb).elim (fun hb => ?_) (right b)
    obtain ⟨d', hd', ha, rfl⟩ := mem_overallDues.1 hb
    exact (order (kind' := none) hx ⟨x, hx, hd', ha⟩ (by simp)).elim dueFirst_asymm fun h => h.2.2.2

/-! ## A due time is taken (R83, R86) -/

theorem exec_dueTimeTaken (s : State) : exec .dueTimeTaken s = .next (s.work fun e w => match nextDue e e.now w with
    | none => w
    | some d => takeDue e d w) := rfl

theorem State.work_congr {s : State} {f g : Env → Recog → Recog} (h : f s.env s.recog = g s.env s.recog) :
    s.work f = s.work g := State.work_eq h

theorem Recog.setTracker_self {w : Recog} {t : SlotIdx} {x : Tracker} (h : w.trackers[t] = x) :
    w.setTracker t x = w := by
  subst h
  refine Recog.eq_of rfl (slots_ext fun u => ?_) rfl rfl rfl rfl rfl rfl
  rw [Recog.setTracker_trackers, getElem_set_fin]
  split
  · next h => rw [h]
  · rfl

/-- R83: with none due nothing changes. -/
theorem exec_dueTimeTaken_none {s : State} (h : ∀ i kind d, ¬ s.DueNow i kind d) : exec .dueTimeTaken s = .next s := by
  have none : nextDue s.env s.time s.recog = none :=
    nextDue_none.2 fun i kind d hd => h i kind d ((s.dueNow_iff i kind d).2 hd)
  rw [exec_dueTimeTaken, State.work_congr (g := fun _ w => w)]
  · rfl
  · simp only [State.env, State.recog] at none ⊢
    rw [none]

/-- R83, R86: the due time before all others is handled whole. -/
theorem exec_dueTimeTaken_some {s : State} {t : SlotIdx} {x : Waiting} {kind : Option DueKind} {d : Time}
    (hx : s.trackers[t] = .waiting x) (hd : s.DueNow t kind d)
    (h : ∀ (u : SlotIdx) (kind' : Option DueKind) (d' : Time), s.DueNow u kind' d' → (u, kind') ≠ (t, kind) →
      s.DueBefore t kind d u kind' d') :
    exec .dueTimeTaken s = .next (s.work fun e w => takeDue e (dueEntry s.time t x.pattern kind d) w) := by
  have first := nextDue_first hx hd h
  rw [exec_dueTimeTaken]
  refine congrArg _ (State.work_congr ?_)
  simp only [State.env, State.recog] at first ⊢
  rw [first]

/-- R86: an aborting due time, with its reason. -/
theorem exec_dueTimeTaken_aborts {s : State} {t : SlotIdx} {x : Waiting} {kind : Option DueKind} {d : Time} {r : Reason}
    (hx : s.trackers[t] = .waiting x) (hd : s.DueNow t kind d)
    (h : ∀ (u : SlotIdx) (kind' : Option DueKind) (d' : Time), s.DueNow u kind' d' → (u, kind') ≠ (t, kind) →
      s.DueBefore t kind d u kind' d')
    (hr : kind = none ∧ r = .expired ∨ kind = some .late ∧ r = .late ∨ kind = some .split ∧ r = .split
        ∨ kind = some .long ∧ r = .long) :
    exec .dueTimeTaken s = .next (s.work fun e w => endTracker e t r d .ready w) := by
  rw [exec_dueTimeTaken_some hx hd h]
  refine congrArg _ (State.work_congr ?_)
  have same : s.recog.setTracker t (.waiting x) = s.recog := Recog.setTracker_self hx
  have hx : s.recog.trackers[t] = .waiting x := hx
  rcases hr with ⟨rfl, rfl⟩ | ⟨rfl, rfl⟩ | ⟨rfl, rfl⟩ | ⟨rfl, rfl⟩
  all_goals simp only [takeDue, dueEntry, hx, takeStepDue, settle, same]

/-- R86: a satisfying due time. -/
theorem exec_dueTimeTaken_satisfies {s : State} {t : SlotIdx} {x : Waiting} {kind : Option DueKind} {d : Time}
    (hx : s.trackers[t] = .waiting x) (hd : s.DueNow t kind d)
    (h : ∀ (u : SlotIdx) (kind' : Option DueKind) (d' : Time), s.DueNow u kind' d' → (u, kind') ≠ (t, kind) →
      s.DueBefore t kind d u kind' d')
    (hk : kind = some .holdEnd ∨ kind = some .quietEnd) :
    exec .dueTimeTaken s = .next (s.work fun e w => settle e t (advance s.patDef[x.pattern] s.held d x) w) := by
  rw [exec_dueTimeTaken_some hx hd h]
  refine congrArg _ (State.work_congr ?_)
  have hx : s.recog.trackers[t] = .waiting x := hx
  rcases hk with rfl | rfl
  all_goals
    simp only [takeDue, dueEntry, hx]
    rfl

/-! ## One tracker alone -/

/-- R63: a record's due time, STEP_DUE by its kind or OVERALL_DUE. -/
def Waiting.HasDue (x : Waiting) (kind : Option DueKind) (d : Time) : Prop :=
  match kind with
  | none => x.overallDue = some d
  | some k => x.stepDue = some (k, d)

/-- R92: with no other tracker in use there are no blockers. -/
theorem blockersOf_alone {e : Env} {trackers : Vector Tracker 6} {t : SlotIdx} {p : PatIdx}
    (hp : trackers[t].pattern = some p) (h : ∀ u : SlotIdx, u ≠ t → trackers[u] = .free) :
        blockersOf e p trackers = 0 := by
  refine patSet_ext fun q => ?_
  rw [hasPat_zero]
  refine Bool.eq_false_of_not_eq_true fun hq => ?_
  obtain ⟨hprio, -, u, hu⟩ := (hasPat_blockersOf ..).1 hq
  by_cases hut : u = t
  · subst hut
    cases hp.symm.trans hu
    exact lt_irrefl _ hprio
  · rw [h u hut] at hu
    cases hu

/-- R92: with no other tracker in use a candidate completes at once. -/
theorem resolve_alone {e : Env} {w : Recog} {t : SlotIdx} {te : Time} {x : Waiting} (hx : w.trackers[t] = .waiting x)
    (h : ∀ u : SlotIdx, u ≠ t → w.trackers[u] = .free) :
        resolve e t te w = complete e cascadeDepth t te false te w := by
  rw [resolve_waiting hx, if_neg]
  rintro ⟨-, hb⟩
  exact hb (blockersOf_alone (by rw [hx]; rfl) h)

theorem set_free_others {trackers : Vector Tracker 6} {t : SlotIdx} {x : Tracker}
    (h : ∀ u : SlotIdx, u ≠ t → trackers[u] = .free) (u : SlotIdx) (hu : u ≠ t) : (trackers.set t x)[u] = .free := by
  rw [getElem_set_fin, if_neg (Ne.symm hu), h u hu]

section

variable {s : State} {t : SlotIdx} {x : Waiting} {d : Time} (hx : s.trackers[t] = .waiting x)
  (free : ∀ u : SlotIdx, u ≠ t → s.trackers[u] = .free)

include free

theorem State.noOtherPending (v : SlotIdx) (y : Pending) (hv : v ≠ t) : s.trackers[v] ≠ .pending y := by
  rw [free v hv]
  nofun

include hx

/-- R83: where one tracker with one due time is in use, that one alone may be taken. -/
theorem State.dueNow_alone {kind : Option DueKind} (only : (x.stepDue = none ∧ kind = none)
      ∨ ∃ k, x.stepDue = some (k, d) ∧ x.overallDue = none ∧ kind = some k) {u : SlotIdx} {kind' : Option DueKind}
    {d' : Time} (h : s.DueNow u kind' d') : (u, kind') = (t, kind) := by
  obtain ⟨y, hy, hv, -⟩ := h
  by_cases hu : u = t
  · subst hu
    cases hx.symm.trans hy
    refine congrArg _ ?_
    rcases only with ⟨hs, rfl⟩ | ⟨k, hs, ho, rfl⟩
    · cases kind' with
      | none => rfl
      | some k' => cases hs.symm.trans hv
    · cases kind' with
      | none => cases ho.symm.trans hv
      | some k' => cases hs.symm.trans hv; rfl
  · rw [free u hu] at hy
    cases hy

/-- R80, R86: an aborting due time of the only tracker in use. -/
theorem exec_dueTimeTaken_abortsAlone {kind : Option DueKind} {r : Reason} (only : (x.stepDue = none ∧ kind = none)
      ∨ ∃ k, x.stepDue = some (k, d) ∧ x.overallDue = none ∧ kind = some k)
    (value : x.HasDue kind d)
        (hr : kind = none ∧ r = .expired ∨ kind = some .late ∧ r = .late ∨ kind = some .split ∧ r = .split
        ∨ kind = some .long ∧ r = .long) :
    (1 ≤ (s.time - d).toNat → (s.time - d).toNat < 2 ^ 31 → exec .dueTimeTaken s = .next
      ({ s with trackers := s.trackers.set t .free, patState := s.patState.set x.pattern .ready }.queued
        s.patDef[x.pattern].header.reportAbort
        (.aborted x.pattern s.patDef[x.pattern].header.tag x.step r (d.setWidth 16))))
    ∧ ((s.time = d ∨ 2 ^ 31 ≤ (s.time - d).toNat) → exec .dueTimeTaken s = .next s) := by
  have aborting : ¬ (kind = some .holdEnd ∨ kind = some .quietEnd) := by
    rcases hr with ⟨rfl, -⟩ | ⟨rfl, -⟩ | ⟨rfl, -⟩ | ⟨rfl, -⟩ <;> simp
  refine ⟨fun h1 h2 => ?_, fun h => exec_dueTimeTaken_none fun u kind' d' hd => ?_⟩
  · have due : s.DueNow t kind d :=
      ⟨x, hx, value, h2, fun _ _ e => by rw [e, sub_self] at h1; exact absurd h1 (by decide)⟩
    rw [exec_dueTimeTaken_aborts hx due (fun u kind' d' hd hne => absurd (State.dueNow_alone hx free only hd) hne) hr]
    refine congrArg _
        ((State.work_endTracker (by rw [hx]; rfl) fun v y hv => State.noOtherPending free v y hv).trans ?_)
    rw [hx]
    rfl
  · have same := State.dueNow_alone hx free only hd
    cases same
    obtain ⟨y, hy, hv, h2, h1⟩ := hd
    cases hx.symm.trans hy
    have : d' = d := by
      cases kind with
      | none => cases value.symm.trans hv; rfl
      | some k => cases value.symm.trans hv; rfl
    subst this
    rcases h with h | h
    · exact h1 (fun e => aborting (.inl e)) (fun e => aborting (.inr e)) h
    · omega

/-- R69, R74, R76: a satisfying due time of the only tracker in use. -/
theorem exec_dueTimeTaken_satisfiesAlone {k : DueKind} (hk : k = .holdEnd ∨ k = .quietEnd)
    (hs : x.stepDue = some (k, d))
    (ho : x.overallDue = none) :
    (2 ^ 31 ≤ (s.time - d).toNat → exec .dueTimeTaken s = .next s)
    ∧ ((s.time - d).toNat < 2 ^ 31 →
      (∀ y, advance s.patDef[x.pattern] s.held d x = .stay y →
        exec .dueTimeTaken s = .next { s with trackers := s.trackers.set t (.waiting y) })
      ∧ (∀ y r time, advance s.patDef[x.pattern] s.held d x = .abort y r time → exec .dueTimeTaken s = .next
        ({ s with trackers := s.trackers.set t .free, patState := s.patState.set x.pattern .ready }.queued
          s.patDef[x.pattern].header.reportAbort
          (.aborted x.pattern s.patDef[x.pattern].header.tag y.step r (time.setWidth 16))))
      ∧ ∀ y te, advance s.patDef[x.pattern] s.held d x = .candidate y te → exec .dueTimeTaken s = .next
        ({ s with trackers := s.trackers.set t (.waiting y) }.work fun e w => complete e 6 t te false te w)) := by
  have alone {u : SlotIdx} {kind' : Option DueKind} {d' : Time} :=
    State.dueNow_alone (u := u) (kind' := kind') (d' := d') hx free (.inr ⟨k, hs, ho, rfl⟩)
  constructor
  · refine fun h => exec_dueTimeTaken_none fun u kind' d' hd => ?_
    have same := alone hd
    cases same
    obtain ⟨y, hy, hv, h2, -⟩ := hd
    cases hx.symm.trans hy
    cases hs.symm.trans hv
    omega
  · intro h
    have kinds : some k = some .holdEnd ∨ some k = some .quietEnd := hk.imp (congrArg _) (congrArg _)
    have due : s.DueNow t (some k) d := ⟨x, hx, hs, h, fun h1 h2 => absurd kinds (by tauto)⟩
    have run := exec_dueTimeTaken_satisfies hx due (fun u kind' d' hd hne => absurd (alone hd) hne) kinds
    have moved (y : Waiting) : (s.trackers.set t (.waiting y))[t] = .waiting y := by rw [getElem_set_fin, if_pos rfl]
    refine ⟨fun y hy => ?_, fun y r time hy => ?_, fun y te hy => ?_⟩
    · rw [run, hy]
      rfl
    · have pattern : y.pattern = x.pattern := by
        have := (advance_moves s.patDef[x.pattern] s.held d x).pattern
        rwa [hy] at this
      rw [run, hy]
      refine congrArg _ ((State.work_endTracker (s := { s with trackers := s.trackers.set t (.waiting y) })
        (p := x.pattern) ?_ ?_).trans ?_)
      · rw [moved, ← pattern]
        rfl
      · exact fun v z hv => by rw [set_free_others free v hv]; nofun
      · rw [moved]
        simp only [Vector.set_set]
        rfl
    · rw [run, hy]
      refine congrArg _ (State.work_congr (s := { s with trackers := s.trackers.set t (.waiting y) })
        (f := fun e w => resolve e t te w) ?_)
      exact resolve_alone (moved y) (set_free_others free)

end

/-- Settles O45: the due time before all others is taken, aborting (`exec_dueTimeTaken_aborts`) or satisfying
(`exec_dueTimeTaken_satisfies`). -/
theorem passedDueTimesAbort : Obligations.PassedDueTimesAbort := by
  refine ⟨fun s t x d hx free => ⟨fun k r hr hs ho => ?_, fun hs ho => ?_, fun k hk hs ho => ?_⟩,
    fun s t x kind d hx hd h => ⟨fun r hr => exec_dueTimeTaken_aborts hx hd h hr, fun hk => ?_⟩⟩
  · refine exec_dueTimeTaken_abortsAlone hx free (.inr ⟨k, hs, ho, rfl⟩) hs ?_
    rcases hr with ⟨rfl, rfl⟩ | ⟨rfl, rfl⟩ | ⟨rfl, rfl⟩ <;> simp
  · exact exec_dueTimeTaken_abortsAlone (kind := none) hx free (.inl ⟨hs, rfl⟩) ho (.inl ⟨rfl, rfl⟩)
  · exact exec_dueTimeTaken_satisfiesAlone hx free hk hs ho
  · rw [exec_dueTimeTaken_satisfies hx hd h hk]
    refine congrArg _ (State.work_congr ?_)
    cases advance s.patDef[x.pattern] s.held d x <;> rfl

end Sys2Proof.Machine
end

section
/-! PROOF. O50: an event offered to the trackers, and the candidates resolved
(04_trackers_and_step_matching.md, section 4.9, stages 3 and 4). -/

namespace Sys2Proof.Machine

/-! ## Stage 3 (R88) -/

/-- R88: what an event makes of a slot where it aborts no tracker. -/
def offeredSlot (e : Env) (held : ChanSet) (ev : Event) (x : Tracker) : Tracker :=
  match x with
  | .waiting x => .waiting (offerEvent (e.pat x.pattern) held ev x).record
  | .free => .free
  | .pending x => .pending x

/-- R88: the candidate that an event makes of a slot. -/
def candidateOf (e : Env) (held : ChanSet) (ev : Event) (trackers : Vector Tracker 6) (t : SlotIdx) :
    Option (SlotIdx × Time) :=
  match trackers[t] with
  | .waiting x => (match offerEvent (e.pat x.pattern) held ev x with
    | .candidate _ te => some (t, te)
    | .stay _ | .abort _ _ _ => none)
  | .free | .pending _ => none

/-- R88: an event at one slot, where it does not abort the tracker there. -/
theorem offerSlot_kept {e : Env} {ev : Event} {acc : Recog × List (SlotIdx × Time)} {t : SlotIdx}
    (h : ∀ (x y : Waiting) (reason : Reason) (time : Time), acc.1.trackers[t] = .waiting x →
      offerEvent (e.pat x.pattern) acc.1.held ev x ≠ .abort y reason time) :
    offerSlot e ev acc t = (acc.1.setTracker t (offeredSlot e acc.1.held ev acc.1.trackers[t]),
      acc.2 ++ (candidateOf e acc.1.held ev acc.1.trackers t).toList) := by
  unfold offerSlot offeredSlot candidateOf
  cases hx : acc.1.trackers[t] with
  | free => simp only [Recog.setTracker_self hx, Option.toList_none, List.append_nil]
  | pending y => simp only [Recog.setTracker_self hx, Option.toList_none, List.append_nil]
  | waiting x =>
    dsimp only
    cases hr : offerEvent (e.pat x.pattern) acc.1.held ev x with
    | stay y => simp only [Progress.record, Option.toList_none, List.append_nil]
    | candidate y te => rfl
    | abort y reason time => exact absurd hr (h x y reason time hx)

/-- R88: an event at the slots of a list, where it aborts no tracker. -/
theorem foldl_offerSlot {e : Env} {ev : Event} {w : Recog}
    (h : ∀ (t : SlotIdx) (x y : Waiting) (reason : Reason) (time : Time), w.trackers[t] = .waiting x →
      offerEvent (e.pat x.pattern) w.held ev x ≠ .abort y reason time) {l : List SlotIdx} (hl : l.Nodup)
    (v : Recog) (cands : List (SlotIdx × Time)) (held : v.held = w.held)
    (same : ∀ t ∈ l, v.trackers[t] = w.trackers[t]) :
    l.foldl (offerSlot e ev) (v, cands) = ({ v with trackers := (Vector.ofFn fun t =>
      (if t ∈ l then offeredSlot e w.held ev w.trackers[t] else v.trackers[t])) },
      cands ++ l.filterMap (candidateOf e w.held ev w.trackers)) := by
  induction l generalizing v cands with
  | nil =>
    rw [List.foldl_nil, List.filterMap_nil, List.append_nil]
    refine Prod.ext (Recog.eq_of ?_ (slots_ext fun u => ?_) ?_ ?_ ?_ ?_ ?_ ?_) rfl
    all_goals simp
  | cons t l ih =>
    obtain ⟨ht, hl⟩ := List.nodup_cons.1 hl
    have here := same t List.mem_cons_self
    have cand : candidateOf e v.held ev v.trackers t = candidateOf e w.held ev w.trackers t := by
      simp only [candidateOf, here, held]
    rw [List.foldl_cons, offerSlot_kept (fun x y reason time hx => by
      rw [show v.held = w.held from held]
      exact h t x y reason time (here ▸ hx))]
    refine (ih hl (v.setTracker t (offeredSlot e v.held ev v.trackers[t])) _ held fun u hu => ?_).trans ?_
    rotate_left
    · dsimp only
      rw [cand, here, held]
      refine Prod.ext (Recog.eq_of rfl (slots_ext fun u => ?_) held rfl rfl rfl rfl rfl) ?_
      · simp only [getElem_ofFn_fin, Recog.setTracker_trackers, getElem_set_fin, List.mem_cons]
        by_cases hu : u = t
        · subst hu
          simp [ht]
        · simp [hu, Ne.symm hu]
      · simp only [List.filterMap_cons, List.append_assoc]
        cases candidateOf e w.held ev w.trackers t <;> rfl
    · simp only [Recog.setTracker_trackers, getElem_set_fin]
      rw [if_neg (by rintro rfl; exact ht hu), same u (List.mem_cons_of_mem _ hu)]

/-- R88: stage 3 where the event aborts no tracker. -/
theorem stage3_kept {e : Env} {ev : Event} {w : Recog}
    (h : ∀ (t : SlotIdx) (x y : Waiting) (reason : Reason) (time : Time), w.trackers[t] = .waiting x →
      offerEvent (e.pat x.pattern) w.held ev x ≠ .abort y reason time) :
    stage3 e ev w = ({ w with trackers := Vector.ofFn fun t => offeredSlot e w.held ev w.trackers[t] },
      allSlots.filterMap (candidateOf e w.held ev w.trackers)) := by
  refine (foldl_offerSlot h (List.nodup_finRange 6) w [] rfl fun _ _ => rfl).trans ?_
  simp [allSlots]

/-! ## Stage 4 (R89) -/

/-- The completion time of a listed candidate. -/
theorem candidateTime_mem {cands : List (SlotIdx × Time)} (hn : (cands.map Prod.fst).Nodup) {c : SlotIdx × Time}
    (hc : c ∈ cands) : candidateTime cands c.1 = some c.2 := by
  unfold candidateTime
  cases hf : cands.find? (fun d => d.1 == c.1) with
  | none => exact absurd (beq_self_eq_true c.1) (List.find?_eq_none.1 hf c hc)
  | some d =>
    have same : d = c := List.inj_on_of_nodup_map hn (List.mem_of_find?_eq_some hf) hc
      (eq_of_beq (List.find?_some hf :))
    rw [same]
    rfl

theorem candidateTime_isSome {cands : List (SlotIdx × Time)} {t : SlotIdx} :
    (candidateTime cands t).isSome = true ↔ ∃ c ∈ cands, c.1 = t := by
  simp [candidateTime, List.find?_isSome]

/-- R89: the candidates that are still bound, in the order of their patterns. -/
theorem stage4_order {e : Env} {w : Recog} {cands order : List (SlotIdx × Time)} (hn : (cands.map Prod.fst).Nodup)
    (hp : order.Perm (cands.filter fun c => w.trackers[c.1].pattern.isSome))
    (ho : order.Pairwise fun c d => e.SlotBefore w.trackers c.1 d.1) :
    stage4 e cands w = order.foldl (fun v c => resolve e c.1 c.2 v) w := by
  have mem (c : SlotIdx × Time) : c ∈ order ↔ c ∈ cands ∧ w.trackers[c.1].pattern.isSome = true := by
    rw [hp.mem_iff, List.mem_filter]
  have slots : (slotOrder e w.trackers).filter (fun t => (candidateTime cands t).isSome) = order.map Prod.fst := by
    refine filter_slotOrder (fun t => ?_) (List.pairwise_map.2 ho)
    rw [candidateTime_isSome, List.mem_map, Option.ne_none_iff_isSome]
    constructor
    · rintro ⟨c, hc, rfl⟩
      exact ⟨((mem c).1 hc).2, c, ((mem c).1 hc).1, rfl⟩
    · rintro ⟨ht, c, hc, rfl⟩
      exact ⟨c, (mem c).2 ⟨hc, ht⟩, rfl⟩
  have listed : stage4 e cands w = ((slotOrder e w.trackers).filter fun t => (candidateTime cands t).isSome).foldl
      (fun v t => match candidateTime cands t with
        | none => v
        | some te => resolve e t te v) w := by
    rw [List.foldl_filter]
    refine List.foldl_ext _ _ _ fun v t _ => ?_
    cases candidateTime cands t <;> rfl
  rw [listed, slots, List.foldl_map]
  refine List.foldl_ext _ _ _ fun v c hc => ?_
  rw [candidateTime_mem hn ((mem c).1 hc).1]

/-- Settles O50: stage 3 slot by slot, `stage3_kept` where no tracker aborts, `stage4_order`, and the kinds of step by
`offerEvent_holdLiftQuiet`. -/
theorem holdLiftAndQuietStepsTakeEvents : Obligations.HoldLiftAndQuietStepsTakeEvents := by
  refine ⟨fun e ev w => ?_, fun e ev w h => ?_, fun e w cands order => stage4_order,
    fun d held ev w x j early => offerEvent_holdLiftQuiet⟩
  · refine List.foldl_ext _ _ _ fun a t _ => ?_
    unfold offerSlot
    cases a.1.trackers[t] with
    | free => rfl
    | pending y => rfl
    | waiting x =>
      dsimp only [Env.pat]
      cases offerEvent e.defs[x.pattern] a.1.held ev x <;> rfl
  · rw [stage3_kept h]
    refine Prod.ext (Recog.eq_of rfl (slots_ext fun t => ?_) rfl rfl rfl rfl rfl rfl)
      (by
        dsimp only [allSlots]
        refine List.filterMap_congr fun t _ => ?_
        unfold candidateOf
        cases w.trackers[t] with
        | free => rfl
        | pending y => rfl
        | waiting x =>
          unfold Env.pat
          cases offerEvent e.defs[x.pattern] w.held ev x <;> rfl)
    · simp only [getElem_ofFn_fin, offeredSlot, Env.pat]
      cases w.trackers[t] with
      | free => rfl
      | pending y => rfl
      | waiting x =>
        dsimp only
        cases offerEvent e.defs[x.pattern] w.held ev x <;> rfl

end Sys2Proof.Machine
end

section
/-! PROOF. O7: NEXT_SCAN present exactly in RUNNING, no channel SUSPENDED there, and none measured in STOPPED
(01_time_base_and_scanning.md, section 1.2 and R7). -/

namespace Sys2Proof.Machine

/-- The run state that a channel's state must suit (R7). -/
def ChanState.suits (running : Bool) (x : ChanState) : Prop :=
  if running then x ≠ .suspended else x.isMeasured = false

theorem ChanState.suits_running {x : ChanState} : x.suits true ↔ x ≠ .suspended := Iff.rfl

theorem ChanState.suits_stopped {x : ChanState} : x.suits false ↔ x.isMeasured = false := Iff.rfl

/-- R31, R34: the state that a channel enters to settle suits the run state. -/
theorem State.settleTarget_suits (s : State) : s.settleTarget.suits s.scanner.running := by
  unfold State.settleTarget
  cases s.scanner.running
  · exact ChanState.suits_stopped.2 rfl
  · exact ChanState.suits_running.2 nofun

theorem ChanState.suits_off (running : Bool) : ChanState.off.suits running := by
  cases running
  · exact suits_stopped.2 rfl
  · exact suits_running.2 nofun

/-- R3: a scan begins in RUNNING, where no channel is SUSPENDED. -/
theorem State.beginScan_scannerOk {s : State} (t : Time) (hr : s.scanner.running = true)
    (hc : ∀ c : Chan, s.chanLive[c].state ≠ .suspended) : (s.beginScan t).ScannerOk := by
  refine ⟨hr.symm, fun sc hsc => ⟨hr, rfl, ?_⟩, fun c => ?_⟩
  · by_cases hm : s.measured.isEmpty = true
    · simp only [State.beginScan, if_pos hm, Option.mem_def] at hsc
      cases hsc
    · simp only [State.beginScan, if_neg hm, Option.mem_def, Option.some.injEq] at hsc
      subst hsc
      exact fun he => hm (List.isEmpty_iff.2 he)
  · exact (if_pos hr).mpr (hc c)

/-- A channel's turn that leaves it in a state that suits the run state. -/
theorem State.chanStep_scannerOk {s : State} (pop : Option PopBetween) {c : Chan} {r : ChanLive × List Notice}
    (h : s.ScannerOk) (hr : r.1.state.suits s.scanner.running) : (s.chanStep pop c r).ScannerOk := by
  obtain ⟨hn, hs, hc⟩ := h
  unfold State.ScannerOk
  rw [State.chanStep_scanner]
  refine ⟨hn, hs, fun d => ?_⟩
  rw [State.chanStep_chanLive]
  by_cases hd : c = d
  · rw [if_pos hd]; exact hr
  · rw [if_neg hd]; exact hc d

theorem baselineStep_state (cfg : ChanCfg) (l : ChanLive) : (baselineStep cfg l).state = l.state := by
  unfold baselineStep
  repeat' split
  all_goals rfl

/-- R17 to R23: a result never suspends a channel. -/
theorem thresholdStep_notSuspended (cfg : ChanCfg) (c : Chan) (t now : Time) {l : ChanLive}
    (h : l.state ≠ .suspended) : (thresholdStep cfg c t now l).1.state ≠ .suspended := by
  have track : (trackStep cfg c now l).1.state ≠ .suspended := by
    unfold trackStep
    dsimp only
    split
    · exact (nofun : ChanState.fault ≠ .suspended)
    · rw [baselineStep_state]; exact h
  unfold thresholdStep
  dsimp only
  split
  · next hs => split; split; exacts [nofun, nofun, track]
  · split; split; exacts [nofun, h, nofun]
  · split; split; exacts [nofun, nofun, h]
  · split; split; exacts [nofun, h, nofun]
  all_goals exact h

theorem chanResult_notSuspended (cfg : ChanCfg) (c : Chan) (raw : Fin 4096) (t now : Time) {l : ChanLive}
    (h : l.state ≠ .suspended) : (chanResult cfg c raw.val t now l).1.state ≠ .suspended := by
  unfold chanResult
  rw [countSaturation_takeRaw]
  dsimp only
  split
  · split
    · exact nofun
    · split
      · next hs =>
        unfold settleStep
        dsimp only
        split
        · exact h
        · exact nofun
      · split
        · exact nofun
        · exact thresholdStep_notSuspended cfg c t now h
  · exact h

/-- R10, R11: the scanner's run state at the end of a load, where the channels are as R36 leaves them. -/
theorem applyImage_startFromImage_scannerOk {i : Image} {s : State} (h : ∀ c : Chan, s.chanLive[c].state =
    (liveFromRecord i.globals.scanAtStart i.chans[c]).state) : (s.startFromImage i).ScannerOk := by
  have suits (c : Chan) : s.chanLive[c].state.suits i.globals.scanAtStart := by
    rw [h c]
    unfold liveFromRecord
    split
    · exact ChanState.suits_off _
    · cases i.globals.scanAtStart
      · exact ChanState.suits_stopped.2 rfl
      · exact ChanState.suits_running.2 nofun
  unfold State.startFromImage
  generalize i.globals.scanAtStart = run at suits
  cases run with
  | false => exact ⟨rfl, nofun, fun c => ChanState.suits_stopped.1 (suits c)⟩
  | true => exact State.beginScan_scannerOk _ rfl fun c => ChanState.suits_running.1 (suits c)

/-- R8, step 1: the scan in progress is over, and stays so through the halts. -/
theorem State.haltAll_scan (s : State) : s.haltAll.scanner.scan = none := by
  unfold State.haltAll
  refine foldl_keeps (P := fun v : State => v.scanner.scan = none) _ (fun v c hv => ?_) allChans _ ?_
  · unfold haltOne
    dsimp only
    split
    · rw [State.chanStep_scanner]; exact hv
    · exact hv
  · rfl

/-- R8, step 3: with the scan over, the scanner stops and the measured channels are suspended. -/
theorem State.stopped_scannerOk {v : State} (h : v.scanner.scan = none) : v.stopped.ScannerOk := by
  refine ⟨rfl, fun sc hsc => absurd (h.symm.trans hsc) nofun, fun c => ?_⟩
  show v.stopped.chanLive[c].state.isMeasured = false
  simp only [State.stopped, getElem_ofFn_fin, suspend]
  split
  · rfl
  · next hm => exact Bool.eq_false_of_not_eq_true hm

/-- R167: a part that goes down is STOPPED with every channel OFF. -/
theorem State.goDown_scannerOk (done : Bool) (m : Mode) (s : State) : (s.goDown done m).ScannerOk := by
  refine ⟨rfl, fun sc hsc => absurd hsc nofun, fun c => ?_⟩
  simp only [State.goDown, Fin.getElem_fin, Vector.getElem_replicate]
  rfl

/-- R168: the end of a start-up load leaves scanner and channels in accord. -/
theorem startUp_scannerOk (cause : ResetCause) (low : Bool) (s : State) : (s.startUp cause low).ScannerOk := by
  unfold State.startUp
  dsimp only
  refine applyImage_startFromImage_scannerOk fun c => ?_
  simp only [State.applyImage, getElem_ofFn_fin]

/-- R4: a scan goes on after a delivery only with a channel still to come. -/
theorem Scan.delivered_left {sc sc' : Scan} (h : sc.delivered = some sc') : sc'.left ≠ [] := by
  unfold Scan.delivered at h
  split at h
  · cases h
  · cases h
  · next hne _ =>
    cases h
    rintro rfl
    exact hne rfl

/-- R15: a delivered result keeps scanner and channels in accord. -/
theorem scanResult_scannerOk {s : State} (raw : Fin 4096) (pop : Option PopBetween) {sc : Scan} (t : Time) (c : Chan)
    (hs : s.scanner.scan = some sc) (h : s.ScannerOk) :
    (State.chanStep { s with scanner := { s.scanner with scan := sc.delivered } } pop c
      (chanResult s.chanCfg[c] c raw.val t s.time s.chanLive[c])).ScannerOk := by
  obtain ⟨hn, hsc, hc⟩ := h
  obtain ⟨run, last, -⟩ := hsc sc hs
  refine State.chanStep_scannerOk pop ⟨hn, fun sc' h' => ⟨run, last, Scan.delivered_left h'⟩, hc⟩ ?_
  have measured : s.chanLive[c].state.suits s.scanner.running := hc c
  show ChanState.suits s.scanner.running _
  rw [run] at measured ⊢
  exact chanResult_notSuspended _ c raw t _ measured

/-- Settles O7: each change of scanner and channels keeps the run state and the channels' states in accord. -/
theorem everyStepKeepsTheScannerLaw : Obligations.EveryStepKeepsTheScannerLaw := by
  have closed : StepClosed State.ScannerOk State.ScannerOk := {
    plain := fun | _, _, .mk .., h => h
    push := fun _ _ h => h, pops := fun _ h => h
    weaken := fun _ h => h, posts := fun _ _ _ _ h => h, works := fun _ _ _ h => h, clears := fun _ h => h
    pulseEnd := fun _ _ h => h, outLevel := fun _ _ h => h, writeGlobals := fun _ _ _ h => h
    writeOutput := fun _ _ _ h => h, patterns := fun _ _ ht h => by cases ht <;> exact h
    stores := fun _ _ ht h => by cases ht <;> exact h, rise := fun _ _ _ _ h => h
    scanStart := fun s t hd _ ⟨_, _, hc⟩ => by
      have hr : s.scanner.running = true := (Bool.and_eq_true_iff.1 hd).1
      exact State.beginScan_scannerOk t hr fun c => ChanState.suits_running.1 (hr ▸ hc c)
    startScan := fun s hr ⟨_, _, hc⟩ => State.beginScan_scannerOk _ rfl fun c => by
      simp only [State.woken, getElem_ofFn_fin, wake]
      split
      · exact nofun
      · next hs => exact hs
    stopScan := fun s _ _ => State.stopped_scannerOk s.haltAll_scan
    scanResult := fun s raw pop sc t c rest hs _ _ h => scanResult_scannerOk raw pop t c hs h
    recalibrate := fun s set h => foldl_keeps _ (fun v c hv => by
      unfold recalibrateOne
      dsimp only
      repeat' split
      · exact hv
      · exact State.chanStep_scannerOk _ hv v.settleTarget_suits
      · exact hv) _ _ h
    writeChannel := fun s c cfg _ h => by
      obtain ⟨hn, hs, hc⟩ := h
      have enters {st : ChanState} (hst : st.suits s.scanner.running) :
          State.ScannerOk
            (State.setLive { s with chanCfg := s.chanCfg.set c cfg } c (enterCleared st s.chanLive[c])) := by
        refine ⟨hn, hs, fun d => ?_⟩
        simp only [State.setLive_chanLive, getElem_set_fin]
        by_cases hd : c = d
        · rw [if_pos hd]; exact hst
        · rw [if_neg hd]; exact hc d
      unfold Machine.writeChannel
      dsimp only
      split
      · split
        · exact enters s.settleTarget_suits
        · exact enters s.settleTarget_suits
        · next hst => exact enters (hst ▸ hc c)
        all_goals exact ⟨hn, hs, hc⟩
      · split
        · exact ⟨hn, hs, hc⟩
        · exact State.chanStep_scannerOk _ ⟨hn, hs, hc⟩ (ChanState.suits_off _)
    restoreTake := fun s x _ _ => ⟨rfl, nofun, fun c => by
      simp only [restoreTake, getElem_ofFn_fin]
      rfl⟩
    restoreEnd := fun s x _ _ => applyImage_startFromImage_scannerOk (s := { s.applyImage (s.store.imageOf x) with
        port := offerAddress (s.store.imageOf x).globals.address (s.applyImage (s.store.imageOf x)).port
        store := { (s.applyImage (s.store.imageOf x)).store with source := x } }) fun c => by
      simp only [State.applyImage, getElem_ofFn_fin]
    goDown := fun s done m _ _ => State.goDown_scannerOk done m s
    startUp := fun s cause low _ _ => startUp_scannerOk cause low s }
  exact fun s t => closed.step_keeps

end Sys2Proof.Machine
end

section
/-! PROOF. O1 and O2: a step runs the command at the front, and no command reads or writes the queue of commands
(95_what_each_step_holds.md). -/

namespace Sys2Proof.Machine

/-- Settles O1, from the definition of `step`. -/
theorem stepRunsTheFrontCommand : Obligations.StepRunsTheFrontCommand :=
  ⟨fun _ _ _ => rfl, fun _ => rfl⟩

/-- The state with another queue of commands. -/
def State.withQueue (s : State) (q : List Instr) : State := { s with pending := q }

/-- Work that neither reads nor writes the queue of commands (log 2). -/
def IgnoresQueue (f : State → State) : Prop := ∀ (s : State) (q : List Instr),
  f { s with pending := q } = (f s).withQueue q

theorem IgnoresQueue.pending {f : State → State} (h : IgnoresQueue f) (s : State) : (f s).pending = s.pending := by
  have same := congrArg State.pending (h s s.pending)
  exact same

namespace IgnoresQueue

theorem self : IgnoresQueue fun s => s := fun _ _ => rfl

theorem comp {f g : State → State} (hf : IgnoresQueue f) (hg : IgnoresQueue g) : IgnoresQueue fun s => f (g s) :=
  fun s q => (congrArg f (hg s q)).trans (hf (g s) q)

/-- A choice whose condition does not read the queue. -/
theorem choice {f g : State → State} {c : State → Prop} [DecidablePred c]
    (hc : ∀ (s : State) q, c { s with pending := q } ↔ c s) (hf : IgnoresQueue f) (hg : IgnoresQueue g) :
    IgnoresQueue fun s => if c s then f s else g s := by
  intro s q
  by_cases h : c s
  · simp only [if_pos h, if_pos ((hc s q).2 h), hf s q]
  · simp only [if_neg h, if_neg (mt (hc s q).1 h), hg s q]

/-- A piece of work for each item of a list. -/
theorem foldl {α : Type} {f : State → α → State} (h : ∀ a, IgnoresQueue fun s => f s a) (l : List α) :
    IgnoresQueue fun s => l.foldl f s := by
  intro s q
  induction l generalizing s with
  | nil => rfl
  | cons a l ih =>
    simp only [List.foldl_cons]
    rw [show f { s with pending := q } a = (f s a).withQueue q from h a s q]
    exact ih _

/-! ## Bytes, pushes and pops -/

theorem takeOffers (l : List Record) : IgnoresQueue (State.takeOffers l) := foldl (fun _ _ _ => rfl) l

theorem work (f : Env → Recog → Recog) : IgnoresQueue fun s => s.work f := fun s q =>
  takeOffers (f s.env s.recog).offers (s.putRecog (f s.env s.recog)) q

theorem postResult (r : Result) (d : Byte) : IgnoresQueue fun s => s.postResult r d := fun _ _ => rfl

theorem postOk : IgnoresQueue State.postOk := postResult .ok 0

theorem popWork (b : Byte) : IgnoresQueue (popWork b) := by
  intro s q
  unfold Machine.popWork
  split <;> rfl

/-- A choice by whether the port is on the bus (R147). -/
theorem absentOr {f g : State → State} (hf : IgnoresQueue f) (hg : IgnoresQueue g) :
    IgnoresQueue fun s => if !s.present then f s else g s :=
  choice (c := fun s => (!s.present) = true) (fun _ _ => Iff.rfl) hf hg

theorem setAck (a : Bool) : IgnoresQueue fun s => s.setAck a := fun _ _ => rfl

theorem writeByteIf (here : RegAddr → Bool) {act : State → State} (h : IgnoresQueue act) :
    IgnoresQueue (writeByteIf here act) := by
  refine absentOr (setAck false) fun s q => ?_
  have acts : act (State.setAck { s with pending := q } true).bumpPointer =
      (act (s.setAck true).bumpPointer).withQueue q := h (s.setAck true).bumpPointer q
  dsimp only
  rw [acts]
  split
  · split <;> rfl
  all_goals rfl

theorem writeByteAt (a : RegAddr) {act : State → State} (h : IgnoresQueue act) : IgnoresQueue (writeByteAt a act) :=
  writeByteIf _ h

theorem cmdByte (code : Byte) {work : State → State} (h : IgnoresQueue work) : IgnoresQueue (cmdByte code work) := by
  refine writeByteAt _ fun s q => ?_
  unfold takeCommand
  dsimp only
  split
  · rfl
  · exact h { s with engine := { s.engine with cmd := code } } q

theorem workWith (pop : Option PopBetween) (f : Env → Recog → Recog) : IgnoresQueue fun s => s.workWith pop f := by
  cases pop with
  | none => exact work f
  | some p =>
    intro s q
    exact ((takeOffers _).comp ((writeByteAt _ (popWork p.byte)).comp (takeOffers _)))
      (s.putRecog (f s.env s.recog)) q

theorem chanStep (pop : Option PopBetween) (c : Chan) (r : ChanLive × List Notice) :
    IgnoresQueue fun s => s.chanStep pop c r := fun s q =>
  workWith pop (handAll s.chanCfg[c].report c r.2) (s.setLive c r.1) q

/-! ## Scanner and channels -/

theorem haltOne (c : Chan) : IgnoresQueue (haltOne c) := by
  intro s q
  unfold Machine.haltOne
  dsimp only
  split
  · exact chanStep none c _ s q
  · rfl

theorem recalibrateOne (c : Chan) : IgnoresQueue (recalibrateOne c) := by
  intro s q
  unfold Machine.recalibrateOne
  dsimp only
  split
  · rfl
  · exact chanStep none c _ s q

theorem recalibrateWork : IgnoresQueue recalibrateWork := by
  intro s q
  have turns : IgnoresQueue fun v => allChans.foldl (fun v c =>
      if hasChan (recalSet s.engine.arg0 s.engine.arg1) c then Machine.recalibrateOne c v else v) v :=
    foldl (fun c => choice (fun _ _ => Iff.rfl) (recalibrateOne c) self) _
  exact postOk.comp turns s q

theorem stopScanWork : IgnoresQueue stopScanWork := by
  have halts : IgnoresQueue fun s => allChans.foldl (fun v c => Machine.haltOne c v) s := foldl haltOne _
  have stops : IgnoresQueue fun s => s.stopped.postOk := fun _ _ => rfl
  intro s q
  rw [stopScanWork_eq, stopScanWork_eq]
  dsimp only
  split
  · exact stops.comp halts { s with scanner := { s.scanner with scan := none } } q
  · rfl

theorem startScanWork : IgnoresQueue startScanWork := by
  intro s q
  rw [startScanWork_eq, startScanWork_eq]
  dsimp only
  split <;> rfl

theorem writeChannel (c : Chan) (cfg : ChanCfg) : IgnoresQueue (writeChannel c cfg) := by
  intro s q
  unfold Machine.writeChannel
  dsimp only
  split
  · split <;> rfl
  · split
    · rfl
    · exact chanStep none c _ { s with chanCfg := s.chanCfg.set c cfg } q

/-! ## Records and patterns -/

theorem writeJudged {α : Type} {j : Judged α} {f : α → State → State} (h : ∀ x, IgnoresQueue (f x)) :
    IgnoresQueue fun s => s.writeJudged j f := by
  intro s q
  unfold State.writeJudged
  cases j with
  | good x => exact postOk.comp (h x) s q
  | bad n => rfl

theorem writeRecordWork : IgnoresQueue writeRecordWork := by
  intro s q
  unfold Machine.writeRecordWork
  dsimp only
  split
  · exact writeJudged (fun g => (fun _ _ => rfl : IgnoresQueue (writeGlobals g))) s q
  · split
    · rfl
    · exact writeJudged (writeChannel _) s q
  · split
    · rfl
    · exact writeJudged (fun x => (fun _ _ => rfl : IgnoresQueue (writeOutput _ x))) s q
  all_goals rfl

theorem readRecordWork : IgnoresQueue readRecordWork := by
  intro s q
  have asked : State.recordAsked { s with pending := q } = s.recordAsked := rfl
  unfold Machine.readRecordWork
  rw [asked]
  split <;> rfl

theorem onPattern {f : PatIdx → State → State} (h : ∀ p, IgnoresQueue (f p)) :
    IgnoresQueue fun v => v.onPattern f := by
  intro s q
  unfold State.onPattern
  dsimp only
  split
  · rfl
  · exact h _ s q

theorem onBuild {f : PatIdx → State → State} (h : ∀ p, IgnoresQueue (f p)) :
    IgnoresQueue fun v => v.onBuild f := by
  intro s q
  unfold State.onBuild
  dsimp only
  split
  · rfl
  · exact h _ s q

theorem beginAt (p : PatIdx) : IgnoresQueue (beginAt p) := by
  intro s q
  unfold Machine.beginAt
  dsimp only
  split
  · rfl
  · split
    · rfl
    · split <;> rfl

theorem appendAt (p : PatIdx) : IgnoresQueue (appendAt p) := by
  intro s q
  unfold Machine.appendAt
  dsimp only
  split
  · rfl
  · split
    · rfl
    · split <;> rfl

theorem endAt (p : PatIdx) : IgnoresQueue (endAt p) := by
  intro s q
  unfold Machine.endAt
  dsimp only
  split <;> rfl

theorem abandonAt (p : PatIdx) : IgnoresQueue (abandonAt p) := fun _ _ => rfl

theorem reviseAt (p : PatIdx) : IgnoresQueue (reviseAt p) := by
  intro s q
  unfold Machine.reviseAt
  dsimp only
  split
  · rfl
  · split
    · rfl
    · split
      · rfl
      · split <;> rfl

theorem deleteAt (p : PatIdx) : IgnoresQueue (deleteAt p) := by
  intro s q
  unfold Machine.deleteAt
  dsimp only
  split <;> rfl

theorem enableAt (p : PatIdx) : IgnoresQueue (enableAt p) := by
  intro s q
  unfold Machine.enableAt
  dsimp only
  split <;> rfl

theorem disableAt (p : PatIdx) : IgnoresQueue (disableAt p) := by
  intro s q
  unfold Machine.disableAt
  dsimp only
  split
  · exact postOk.comp (work _) s q
  all_goals rfl

theorem armAt (p : PatIdx) : IgnoresQueue (armAt p) := by
  intro s q
  unfold Machine.armAt
  dsimp only
  split <;> rfl

/-! ## The store and the loads -/

theorem commitWork : IgnoresQueue commitWork := by
  intro s q
  unfold Machine.commitWork
  dsimp only
  split <;> rfl

theorem restoreStoredWork : IgnoresQueue restoreStoredWork := by
  intro s q
  unfold Machine.restoreStoredWork
  dsimp only
  split <;> rfl

theorem eraseNext (l : List BankId) : IgnoresQueue fun s => s.eraseNext l := by
  intro s q
  unfold State.eraseNext
  dsimp only
  split
  · rfl
  · split <;> rfl
  · split
    · rfl
    · split <;> rfl

theorem eraseStoredWork : IgnoresQueue eraseStoredWork := fun s q =>
  eraseNext [s.store.eraseOrder.1, s.store.eraseOrder.2]
    (s.acceptLong (.erase s.store.eraseOrder.1 (some s.store.eraseOrder.2))) q

theorem startFromImage (i : Image) : IgnoresQueue (State.startFromImage i) := by
  intro s q
  unfold State.startFromImage
  dsimp only
  split <;> rfl

theorem startUp (cause : ResetCause) (low : Bool) : IgnoresQueue (State.startUp cause low) := fun s q =>
  startFromImage s.startImage (State.applyImage s.startImage { s with
    store := { s.store.examineAll with source := s.store.examineAll.startSource }
    port := portAtStart low s.startImage.globals.address s.port
    time := 0, resetCause := cause, attnMask := s.startImage.attnMask, report := { records := [], lost := 0 }
    outLevel := 0, engine := Engine.reset
    flags := if s.store.examineAll.damagedAtStart.a || s.store.examineAll.damagedAtStart.b then
      raiseFlag .storeFault 0 else 0
    mode := .running }) q

theorem restoreEnd (x : Source) : IgnoresQueue (restoreEnd x) := fun s q => by
  have ends : IgnoresQueue fun v => State.postOk { v with attnMask := (s.store.imageOf x).attnMask } := fun _ _ => rfl
  exact ends.comp (startFromImage (s.store.imageOf x)) { s.applyImage (s.store.imageOf x) with
    port := offerAddress (s.store.imageOf x).globals.address (s.applyImage (s.store.imageOf x)).port
    store := { (s.applyImage (s.store.imageOf x)).store with source := x } } q

/-- Every command is work that ignores the queue. -/
theorem exec (i : Instr) : ∃ f, IgnoresQueue f ∧ ∀ s, exec i s = .next (f s) := by
  have is {f : State → State} (h : IgnoresQueue f) : ∃ g, IgnoresQueue g ∧ ∀ s,
      (.next (f s) : Host.Outcome State Fault Refusal) = .next (g s) := ⟨f, h, fun _ => rfl⟩
  cases i
  case timeBaseTick => exact is fun s q => by dsimp only; split <;> rfl
  case scanStart =>
    refine is (choice (c := fun s => s.scanDue = true) (fun _ _ => Iff.rfl) (fun s q => ?_) self)
    dsimp only
    split <;> rfl
  case scanResult raw pop =>
    refine is fun s q => ?_
    dsimp only
    split
    · next sc t _ _ =>
      split
      · exact workWith pop _ s q
      · next c _ _ =>
        exact chanStep pop c (chanResult s.chanCfg[c] c raw.val t s.time s.chanLive[c])
          { s with scanner := { s.scanner with scan := sc.delivered } } q
    · exact workWith pop _ s q
  case dueTimeTaken pop => exact is (workWith pop _)
  case pulseEnd | powerOn | lossOfPower => exact is fun _ _ => rfl
  case rstNAssert | rstNRelease =>
    refine is fun s q => ?_
    dsimp only
    split <;> rfl
  case startUpLoadEnd low =>
    refine is fun s q => ?_
    dsimp only
    split
    · exact startUp _ low s q
    all_goals rfl
  case addressByte addr read | repeatedStart addr read =>
    refine is (choice (c := fun s => s.present = true) (fun _ _ => Iff.rfl) (fun s q => ?_) (setAck false))
    dsimp only
    split <;> rfl
  case pointerByte b =>
    refine is (absentOr (setAck false) fun s q => ?_)
    dsimp only
    split <;> rfl
  case registerWrite b =>
    refine is fun s q => ?_
    refine writeByteIf _ (fun v q => ?_) s q
    unfold storeByte
    dsimp only
    split
    · rfl
    · split <;> rfl
  case snapshotRead | readByteTransmitted | stopCondition =>
    refine is (choice (fun _ _ => Iff.rfl) (fun _ _ => rfl) self)
  case flagsWrite | attnMaskWrite => exact is (writeByteAt _ fun _ _ => rfl)
  case pop b => exact is (writeByteAt _ (popWork b))
  case outLevelWrite b =>
    exact is (writeByteAt _ (choice (c := fun s => s.restoring = true) (fun _ _ => Iff.rfl) (fun _ _ => rfl)
      fun _ _ => rfl))
  case readRecord => exact is (cmdByte _ readRecordWork)
  case writeRecord => exact is (cmdByte _ writeRecordWork)
  case beginPattern => exact is (cmdByte _ (onPattern beginAt))
  case appendStep => exact is (cmdByte _ (onBuild appendAt))
  case endPattern => exact is (cmdByte _ (onBuild endAt))
  case abandonPattern => exact is (cmdByte _ (onBuild abandonAt))
  case revisePattern => exact is (cmdByte _ (onPattern reviseAt))
  case deletePattern => exact is (cmdByte _ (onPattern deleteAt))
  case enablePattern => exact is (cmdByte _ (onPattern enableAt))
  case disablePattern => exact is (cmdByte _ (onPattern disableAt))
  case armPattern => exact is (cmdByte _ (onPattern armAt))
  case flushTrackers => exact is (cmdByte _ (postOk.comp (work _)))
  case startScan => exact is (cmdByte _ startScanWork)
  case stopScan => exact is (cmdByte _ stopScanWork)
  case recalibrate => exact is (cmdByte _ recalibrateWork)
  case clearQueue | restoreFactory | reinit => exact is (cmdByte _ fun _ _ => rfl)
  case commit => exact is (cmdByte _ commitWork)
  case restoreStored => exact is (cmdByte _ restoreStoredWork)
  case eraseStored => exact is (cmdByte _ eraseStoredWork)
  case badCommand code => exact is (choice (fun _ _ => Iff.rfl) self (cmdByte code (postResult .badCommand 0)))
  case commitEraseEnd | commitProgramEnd | checkValueWordWritten | eraseSecondBankEnd =>
    refine is fun s q => ?_
    dsimp only
    split <;> rfl
  case commitVerifyEnd | commitSealEnd =>
    refine is fun s q => ?_
    dsimp only
    split
    · split <;> rfl
    · rfl
  case restoreLoadEnd =>
    refine is fun s q => ?_
    dsimp only
    split
    · exact restoreEnd _ s q
    · rfl
  case eraseFirstBankEnd =>
    refine is fun s q => ?_
    dsimp only
    split
    · next i j _ => exact eraseNext [j] (s.blankBank i) q
    · rfl

end IgnoresQueue

/-- Settles O2: every command is work that ignores the queue. -/
theorem commandsCompleteAndIgnoreTheQueue : Obligations.CommandsCompleteAndIgnoreTheQueue := by
  intro i s
  obtain ⟨f, hf, exec_eq⟩ := IgnoresQueue.exec i
  exact ⟨f s, exec_eq s, hf.pending s, fun q => (exec_eq _).trans (congrArg _ (hf s q))⟩

end Sys2Proof.Machine
end

section
/-! PROOF. Synthetic releases handed on in turn, and O15, O16, O17, O23, O24: the commands that take channels out of
PRESSED and RELEASING (01_time_base_and_scanning.md, sections 1.2 and 1.3; 02_channel_conditioning.md, sections 2.4 to
2.6). -/

namespace Sys2Proof.Machine

/-! ## Work beside scanner and live records -/

/-- The state with another scanner and other live records, which no work of the matcher reads. -/
def State.withScan (s : State) (sc : Scanner) (live : Vector ChanLive 12) : State :=
  { s with scanner := sc, chanLive := live }

theorem State.takeOffers_withScan (s : State) (sc : Scanner) (live : Vector ChanLive 12) (l : List Record) :
    (s.withScan sc live).takeOffers l = (s.takeOffers l).withScan sc live := by
  induction l generalizing s with
  | nil => rfl
  | cons r l ih => exact ih (s.push r)

theorem State.work_withScan (s : State) (sc : Scanner) (live : Vector ChanLive 12) (f : Env → Recog → Recog) :
    (s.withScan sc live).work f = (s.work f).withScan sc live :=
  (s.putRecog (f s.env s.recog)).takeOffers_withScan sc live _

theorem State.work_held (s : State) (f : Env → Recog → Recog) : (s.work f).held = (f s.env s.recog).held := by
  rw [State.work, State.takeOffers_frame]
  rfl

/-! ## A release with no tracker in use (R27, R62, R103, R121) -/

/-- R62, R103, R121: stage 2 of a RELEASE and the follows that it ends. -/
theorem State.putRecog_release (s : State) {ev : Event} (hp : ev.press = false) (w : Recog) :
    s.putRecog (stage2 s.env ev w).endFollows = (s.putRecog w).released ev.chan := by
  have held : heldAfter ev w.held = w.held &&& ~~~(1#12 <<< ev.chan.val) := by rw [heldAfter, hp]; rfl
  have two : (stage2 s.env ev w).endFollows = { w with
      held := w.held &&& ~~~(1#12 <<< ev.chan.val)
      pstate := ((s.putRecog w).released ev.chan).patState
      outs := ((s.putRecog w).released ev.chan).outState } := by
    rw [stage2_eq s.env ev w rfl, held]
    refine Recog.eq_of (patStates_ext fun p => ?_) rfl rfl (Vector.ext fun i hi => ?_) rfl rfl rfl rfl
    · simp only [Recog.endFollows, State.released, getElem_ofFn_fin, hp, true_and]
      rfl
    · simp only [Recog.endFollows, State.released, Vector.getElem_ofFn, State.putRecog_outState, State.putRecog_held]
      cases w.outs[(⟨i, hi⟩ : OutIdx)] with
      | following set =>
        simp only [endFollow, overlaps, bne_iff_ne, ne_eq, ite_not]
        rfl
      | off | low | high | pulsing due => rfl
  rw [two]
  rfl

theorem State.released_push (s : State) (c : Chan) (r : Record) : (s.released c).push r = (s.push r).released c := by
  simp only [State.released, State.push]
  rfl

theorem State.takeOffers_released (s : State) (c : Chan) (l : List Record) :
    (s.released c).takeOffers l = (s.takeOffers l).released c := by
  induction l generalizing s with
  | nil => rfl
  | cons r l ih => rw [State.takeOffers_cons, State.released_push, ih, State.takeOffers_cons]

theorem stage2_offers (e : Env) (ev : Event) (w : Recog) : (stage2 e ev w).offers = w.offers := by
  unfold stage2
  split <;> rfl

/-- R27, R62, R103, R121: a RELEASE handed on while no tracker is in use. -/
theorem State.work_release {s : State} {ev : Event} (hp : ev.press = false) (report : Bool) (r : Record)
    (h : s.NoTracker) : (s.work fun e w => (matchEvent e ev (if report = true then w.offer r else w)).endFollows) =
      (s.queued report r).released ev.chan := by
  have none (w : Recog) (hw : ∀ u : SlotIdx, w.trackers[u] = .free) :
      matchEvent s.env ev w = stage2 s.env ev { w with ended := 0, claimed := 0 } :=
    matchEvent_noTracker s.env ev w hw fun he => absurd (he.symm.trans hp) nofun
  have offers (w : Recog) : (stage2 s.env ev w).endFollows.offers = w.offers := stage2_offers s.env ev w
  rw [State.queued_eq_push]
  cases report with
  | false =>
    rw [State.work_eq (f := fun e w => (matchEvent e ev (if false = true then w.offer r else w)).endFollows)
      (congrArg Recog.endFollows (none s.recog h)), offers, State.putRecog_release s hp]
    rfl
  | true =>
    rw [State.work_eq (f := fun e w => (matchEvent e ev (if true = true then w.offer r else w)).endFollows)
      (congrArg Recog.endFollows (none (s.recog.offer r) h)), offers, State.putRecog_release s hp,
      State.takeOffers_released]
    rfl

/-! ## Releases handed on in turn (R8, R34) -/

theorem State.releasedFor_withScan {s : State} (cause : Cause) (c : Chan) (sc : Scanner) {live : Vector ChanLive 12}
    (h : live[c].pressTime = s.chanLive[c].pressTime) :
    (s.withScan sc live).releasedFor cause c = (s.releasedFor cause c).withScan sc live := by
  unfold State.releasedFor
  rw [State.work_withScan]
  simp only [State.withScan, h]

theorem State.releasedFor_taken (s : State) (code : Byte) (cause : Cause) (c : Chan) :
    (s.taken code).releasedFor cause c = (s.releasedFor cause c).taken code := s.taken_work code _

theorem State.releasedFor_chanLive (s : State) (cause : Cause) (c : Chan) :
    (s.releasedFor cause c).chanLive = s.chanLive := by
  rw [State.releasedFor, State.work_frame]

theorem State.releasedFor_held (s : State) (cause : Cause) (c d : Chan) :
    hasChan (s.releasedFor cause c).held d = (hasChan s.held d && !decide (c = d)) := by
  have offer (b : Bool) (r : Record) (w : Recog) : (if b = true then w.offer r else w).held = w.held := by
    cases b <;> rfl
  rw [State.releasedFor, State.work_held]
  dsimp only [Recog.endFollows]
  rw [matchEvent_held, heldAfter_release rfl, offer]
  rfl

/-- R26, R27: the release of one channel while no tracker is in use. -/
theorem State.releasedFor_noTracker {s : State} (cause : Cause) (c : Chan) (h : s.NoTracker) :
    s.releasedFor cause c = (s.queued s.chanCfg[c].report (.channel c (.release cause) (s.time.setWidth 16)
      (BitVec.ofNat 16 (min (s.time - s.chanLive[c].pressTime).toNat 65535)))).released c :=
  State.work_release (ev := ⟨c, false, s.time, cause,
    BitVec.ofNat 16 (min (s.time - s.chanLive[c].pressTime).toNat 65535)⟩) rfl _ _ h

/-- The releases of the channels of a list, each whole before the next. -/
def State.releases (cause : Cause) (l : List Chan) (s : State) : State := l.foldl (fun v c => v.releasedFor cause c) s

theorem State.releasedInTurn_eq (s : State) (cause : Cause) (down : Chan → Bool) :
    s.releasedInTurn cause down = s.releases cause (allChans.filter down) := rfl

theorem State.releases_chanLive (cause : Cause) (l : List Chan) (s : State) :
    (s.releases cause l).chanLive = s.chanLive := by
  induction l generalizing s with
  | nil => rfl
  | cons c l ih => exact (ih _).trans (s.releasedFor_chanLive cause c)

theorem State.releases_withScan {cause : Cause} {l : List Chan} {s : State} (sc : Scanner) {live : Vector ChanLive 12}
    (h : ∀ c ∈ l, live[c].pressTime = s.chanLive[c].pressTime) :
    (s.withScan sc live).releases cause l = (s.releases cause l).withScan sc live := by
  induction l generalizing s with
  | nil => rfl
  | cons c l ih =>
    refine (congrArg (State.releases cause l)
      (State.releasedFor_withScan cause c sc (h c List.mem_cons_self))).trans (ih fun d hd => ?_)
    rw [State.releasedFor_chanLive]
    exact h d (List.mem_cons_of_mem _ hd)

theorem State.releases_taken (code : Byte) (cause : Cause) (l : List Chan) (s : State) :
    (s.taken code).releases cause l = (s.releases cause l).taken code := by
  induction l generalizing s with
  | nil => rfl
  | cons c l ih => exact (congrArg (State.releases cause l) (s.releasedFor_taken code cause c)).trans (ih _)

theorem State.releases_held (cause : Cause) (l : List Chan) (s : State) (d : Chan) :
    hasChan (s.releases cause l).held d = (hasChan s.held d && !decide (d ∈ l)) := by
  induction l generalizing s with
  | nil => simp [State.releases]
  | cons c l ih =>
    refine (ih _).trans ?_
    rw [State.releasedFor_held, Bool.and_assoc]
    refine congrArg _ ?_
    by_cases hd : d = c
    · simp [hd]
    · simp [hd, Ne.symm hd]

theorem State.releasedFor_engine (s : State) (cause : Cause) (c : Chan) :
    (s.releasedFor cause c).engine = s.engine := by
  unfold State.releasedFor
  rw [State.work_frame]

theorem State.releases_engine (cause : Cause) (l : List Chan) (s : State) : (s.releases cause l).engine = s.engine := by
  induction l generalizing s with
  | nil => rfl
  | cons c l ih => exact (ih _).trans (s.releasedFor_engine cause c)

theorem State.releasedFor_port (s : State) (cause : Cause) (c : Chan) : (s.releasedFor cause c).port = s.port := by
  unfold State.releasedFor
  rw [State.work_frame]

theorem State.releases_port (cause : Cause) (l : List Chan) (s : State) : (s.releases cause l).port = s.port := by
  induction l generalizing s with
  | nil => rfl
  | cons c l ih => exact (ih _).trans (s.releasedFor_port cause c)

theorem State.releasedFor_scanner (s : State) (cause : Cause) (c : Chan) :
    (s.releasedFor cause c).scanner = s.scanner := by
  unfold State.releasedFor
  rw [State.work_frame]

theorem State.releases_scanner (cause : Cause) (l : List Chan) (s : State) :
    (s.releases cause l).scanner = s.scanner := by
  induction l generalizing s with
  | nil => rfl
  | cons c l ih => exact (ih _).trans (s.releasedFor_scanner cause c)

/-! ## Turns of channels that leave their states -/

/-- A channel's turn at a command: its release first where it is PRESSED or RELEASING, then its new live record. -/
def State.turn (cause : Cause) (g : ChanLive → ChanLive) (v : State) (c : Chan) : State :=
  (if v.chanLive[c].state.isDown = true then v.releasedFor cause c else v).withScan v.scanner
    (v.chanLive.set c (g v.chanLive[c]))

theorem State.turn_chanLive (cause : Cause) (g : ChanLive → ChanLive) (v : State) (c d : Chan) :
    (v.turn cause g c).chanLive[d] = if c = d then g v.chanLive[d] else v.chanLive[d] := by
  simp only [State.turn, State.withScan, getElem_set_fin]
  by_cases hd : c = d
  · subst hd; rfl
  · simp only [if_neg hd]

theorem State.withScan_self {s : State} {sc : Scanner} {live : Vector ChanLive 12} (hs : sc = s.scanner)
    (h : ∀ d : Chan, live[d] = s.chanLive[d]) : s.withScan sc live = s := by
  subst hs
  rw [show live = s.chanLive from Vector.ext fun i hi => h ⟨i, hi⟩]
  rfl

/-- The releases of other channels after a channel's turn. -/
theorem State.turn_releases {cause : Cause} {g : ChanLive → ChanLive} (hg : ∀ x, (g x).pressTime = x.pressTime)
    {p : Chan → Bool} (s : State) (hp : p = fun c => s.chanLive[c].state.isDown) (c : Chan) (l : List Chan)
    (live : Vector ChanLive 12) :
    ((s.turn cause g c).releases cause (l.filter p)).withScan (s.turn cause g c).scanner live =
      (s.releases cause ((c :: l).filter p)).withScan s.scanner live := by
  have press (v : State) (hv : v.chanLive = s.chanLive) (d : Chan) :
      (s.chanLive.set c (g s.chanLive[c]))[d].pressTime = v.chanLive[d].pressTime := by
    rw [hv, getElem_set_fin]
    by_cases hd : c = d
    · subst hd; rw [if_pos rfl, hg]
    · rw [if_neg hd]
  unfold State.turn
  by_cases hd : s.chanLive[c].state.isDown = true
  · rw [if_pos hd, List.filter_cons_of_pos (by rw [hp]; exact hd),
      State.releases_withScan _ fun d _ => press _ (s.releasedFor_chanLive cause c) d]
    rfl
  · rw [if_neg hd, List.filter_cons_of_neg (by rw [hp]; exact hd), State.releases_withScan _ fun d _ => press s rfl d]
    rfl

/-- R8, R34: the turns of the channels of a list are their releases in turn, with the new live records. -/
theorem State.turns_eq {cause : Cause} {g : ChanLive → ChanLive} (hg : ∀ x, (g x).pressTime = x.pressTime)
    {l : List Chan} (hl : l.Nodup) (s : State) : l.foldl (State.turn cause g) s =
      (s.releases cause (l.filter fun c => s.chanLive[c].state.isDown)).withScan s.scanner
        (Vector.ofFn fun d => if d ∈ l then g s.chanLive[d] else s.chanLive[d]) := by
  induction l generalizing s with
  | nil => exact (State.withScan_self rfl fun d => by simp).symm
  | cons c l ih =>
    obtain ⟨hc, hl⟩ := List.nodup_cons.1 hl
    have lives (d : Chan) := s.turn_chanLive cause g c d
    have down : l.filter (fun d => (s.turn cause g c).chanLive[d].state.isDown) =
        l.filter fun d => s.chanLive[d].state.isDown :=
      List.filter_congr fun d hd => by rw [lives d, if_neg (by rintro rfl; exact hc hd)]
    rw [List.foldl_cons, ih hl, down, State.turn_releases hg s rfl]
    refine congrArg (State.withScan _ _) (Vector.ext fun i hi => ?_)
    simp only [Vector.getElem_ofFn, lives, List.mem_cons]
    by_cases hd : (⟨i, hi⟩ : Chan) = c
    · simp [hd, hc]
    · simp [hd, Ne.symm hd]

theorem State.turn_congr {cause : Cause} {g g' : ChanLive → ChanLive} {v : State} {c : Chan}
    (h : g v.chanLive[c] = g' v.chanLive[c]) : v.turn cause g c = v.turn cause g' c := by
  unfold State.turn
  rw [h]

/-- A turn that leaves a channel that is not down as it is changes nothing. -/
theorem State.turn_self {cause : Cause} {g : ChanLive → ChanLive} {v : State} {c : Chan}
    (hd : v.chanLive[c].state.isDown = false) (h : g v.chanLive[c] = v.chanLive[c]) : v.turn cause g c = v := by
  unfold State.turn
  rw [if_neg (by rw [hd]; nofun), h]
  refine State.withScan_self rfl fun d => ?_
  rw [getElem_set_fin]
  by_cases hc : c = d
  · subst hc; exact if_pos rfl
  · exact if_neg hc

/-- R8, R31, R34: a channel that a command takes out of its state. -/
theorem State.chanStep_turn (v : State) (target : ChanState) {cause : Cause} (hc : cause ≠ .stuck) (c : Chan) :
    v.chanStep none c (leaveTo target cause c v.time v.chanLive[c]) = v.turn cause (enterCleared target) c := by
  by_cases hd : v.chanLive[c].state.isDown = true
  · rw [State.chanStep_leaveTo v target cause c hc hd, State.turn, if_pos hd]
    refine (State.releasedFor_withScan cause c v.scanner (live := v.chanLive.set c (enterCleared target v.chanLive[c]))
      ?_)
    rw [getElem_set_fin, if_pos rfl]
    rfl
  · rw [State.turn, if_neg hd, leaveTo, if_neg hd]
    rfl

theorem allChans_nodup : allChans.Nodup := List.nodup_finRange 12

theorem filter_allChans_single {p : Chan → Bool} {c : Chan} (hc : p c = true) (h : ∀ d, d ≠ c → p d = false) :
    allChans.filter p = [c] := by
  have single : ∀ c : Chan, allChans.filter (fun d => d == c) = [c] := by decide
  rw [← single c]
  refine List.filter_congr fun d _ => ?_
  by_cases hd : d = c
  · subst hd; rw [hc, beq_self_eq_true]
  · rw [h d hd, beq_eq_false_iff_ne.2 hd]

theorem chanSet_ext {a b : ChanSet} (h : ∀ c : Chan, hasChan a c = hasChan b c) : a = b :=
  BitVec.eq_of_getLsbD_eq fun i hi => h ⟨i, hi⟩

theorem mem_measuredIn (live : Vector ChanLive 12) (c : Chan) :
    c ∈ measuredIn live ↔ live[c].state ∈ measuredStates := by
  simp [measuredIn]

/-! ## STOP_SCAN (R8, R9) -/

/-- R8, step 2: what STOP_SCAN makes of a channel that is PRESSED or RELEASING. -/
def haltLive (x : ChanLive) : ChanLive := if x.state.isDown = true then enterCleared .suspended x else x

theorem haltOne_turn (c : Chan) (v : State) : haltOne c v = v.turn .halt haltLive c := by
  unfold haltOne
  dsimp only
  split
  · next hd =>
    rw [State.chanStep_turn v .suspended (cause := .halt) nofun]
    exact State.turn_congr (if_pos hd).symm
  · next hd => exact (State.turn_self (Bool.eq_false_of_not_eq_true hd) (if_neg hd)).symm

/-- R8: STOP_SCAN before its releases: the scanner STOPPED and the measured channels SUSPENDED. -/
def State.suspended (s : State) : State :=
  { s with
    scanner := { s.scanner with running := false, nextScan := none, scan := none }
    chanLive := Vector.ofFn fun d : Chan =>
      if s.chanLive[d].state ∈ measuredStates then s.chanLive[d].cleared ChanState.suspended else s.chanLive[d] }

theorem State.suspended_chanLive (s : State) (c : Chan) : s.suspended.chanLive[c] =
    if s.chanLive[c].state ∈ measuredStates then s.chanLive[c].cleared ChanState.suspended else s.chanLive[c] :=
  getElem_ofFn_fin _ c

theorem ChanState.measured_of_down {x : ChanState} (h : x.isDown = true) : x.isMeasured = true := by
  cases x <;> first | rfl | cases h

theorem suspend_haltLive (x : ChanLive) :
    suspend (haltLive x) = if x.state ∈ measuredStates then x.cleared ChanState.suspended else x := by
  simp only [← isMeasured_iff]
  by_cases hd : x.state.isDown = true
  · rw [show haltLive x = enterCleared .suspended x from if_pos hd, if_pos (ChanState.measured_of_down hd)]
    exact if_neg nofun
  · rw [show haltLive x = x from if_neg hd]
    rfl

theorem State.haltAll_stopped (s : State) :
    s.haltAll.stopped = s.suspended.releasedInTurn .halt fun c => s.chanLive[c].state.isDown := by
  have turns :
      s.haltAll = allChans.foldl (State.turn .halt haltLive) { s with scanner := { s.scanner with scan := none } } := by
    unfold State.haltAll
    exact congrArg (fun f => List.foldl f _ allChans) (funext fun v => funext fun c => haltOne_turn c v)
  have pressTime (x : ChanLive) : (haltLive x).pressTime = x.pressTime := by
    unfold haltLive
    split <;> rfl
  have same : ({ s with scanner := { s.scanner with scan := none } } : State) =
      s.withScan { s.scanner with scan := none } s.chanLive := rfl
  have cleared (c : Chan) : s.suspended.chanLive[c].pressTime = s.chanLive[c].pressTime := by
    rw [State.suspended_chanLive]
    split <;> rfl
  have after : s.suspended.releasedInTurn .halt (fun c => s.chanLive[c].state.isDown) =
      (s.releases .halt (allChans.filter fun c => s.chanLive[c].state.isDown)).withScan s.suspended.scanner
        s.suspended.chanLive :=
    State.releases_withScan (s := s) (live := s.suspended.chanLive) s.suspended.scanner fun c _ => cleared c
  rw [turns, State.turns_eq pressTime allChans_nodup, after, same, State.releases_withScan _ fun _ _ => rfl]
  refine congrArg (State.withScan _ _) (Vector.ext fun i hi => ?_)
  simp only [State.withScan, Vector.getElem_ofFn, getElem_ofFn_fin, allChans, List.mem_finRange, if_true,
    suspend_haltLive, State.suspended]

theorem State.suspended_taken (s : State) (code : Byte) : (s.taken code).suspended = s.suspended.taken code := rfl

theorem State.releasedInTurn_taken (s : State) (code : Byte) (cause : Cause) (down : Chan → Bool) :
    (s.taken code).releasedInTurn cause down = (s.releasedInTurn cause down).taken code := State.releases_taken ..

theorem exec_stopScan {s : State} (hs : s.Takes) (hr : s.scanner.running = true) : exec .stopScan s = .next
    ((s.suspended.releasedInTurn .halt fun c => s.chanLive[c].state.isDown).posted 0x29#8 .ok 0) := by
  have running : (s.taken 0x29).scanner.running = true := hr
  refine congrArg Host.Outcome.next ((cmdByte_takes (work := stopScanWork) hs).trans ?_)
  refine (stopScanWork_eq (s.taken 0x29)).trans ?_
  rw [if_pos running, State.haltAll_stopped, State.suspended_taken, State.releasedInTurn_taken, State.taken_postOk]
  rfl

/-- R8: where no channel is down, STOP_SCAN hands on no release. -/
theorem State.releasedInTurn_none {s : State} (cause : Cause) {down : Chan → Bool} (h : ∀ c, down c = false) :
    s.releasedInTurn cause down = s := by
  rw [State.releasedInTurn_eq, List.filter_eq_nil_iff.2 fun c _ => by rw [h c]; nofun]
  rfl

theorem State.releasedInTurn_single {s : State} (cause : Cause) {down : Chan → Bool} {c : Chan} (hc : down c = true)
    (h : ∀ d, d ≠ c → down d = false) : s.releasedInTurn cause down = s.releasedFor cause c := by
  rw [State.releasedInTurn_eq, filter_allChans_single hc h]
  rfl

theorem State.releasedInTurn_held (s : State) (cause : Cause) (down : Chan → Bool) (d : Chan) :
    hasChan (s.releasedInTurn cause down).held d = (hasChan s.held d && !down d) := by
  rw [State.releasedInTurn_eq, State.releases_held]
  simp [allChans]

theorem State.releasedInTurn_chanLive (s : State) (cause : Cause) (down : Chan → Bool) :
    (s.releasedInTurn cause down).chanLive = s.chanLive := State.releases_chanLive ..

theorem State.releasedInTurn_engine (s : State) (cause : Cause) (down : Chan → Bool) (code : Byte) :
    ((s.releasedInTurn cause down).posted code .ok 0).engine = (s.posted code .ok 0).engine := by
  have same : (s.releasedInTurn cause down).engine = s.engine := State.releases_engine ..
  simp only [State.posted, State.acked, same]

theorem State.releasedInTurn_port (s : State) (cause : Cause) (down : Chan → Bool) (code : Byte) :
    ((s.releasedInTurn cause down).posted code .ok 0).port = s.acked.port := by
  have same : (s.releasedInTurn cause down).port = s.port := State.releases_port ..
  simp only [State.posted, State.acked, same]

theorem State.suspended_chanLive_measured (s : State) (c : Chan) : s.suspended.chanLive[c] =
    if c ∈ measuredIn s.chanLive then s.chanLive[c].cleared ChanState.suspended else s.chanLive[c] := by
  rw [State.suspended_chanLive]
  simp only [mem_measuredIn]

/-- Settles O17: the releases of STOP_SCAN's channels in turn, on the state with scanner and channels already halted. -/
theorem stopScanStopsTheScanner : Obligations.StopScanStopsTheScanner := by
  intro s hs
  refine ⟨fun hr => ?_, fun hr => ⟨_, exec_stopScan hs hr, ?_, fun c => ?_, fun c hc => ?_,
    State.releasedInTurn_engine .., State.releasedInTurn_port .., fun held => chanSet_ext fun c => ?_, fun up => ?_⟩,
    exec_stopScan hs, fun hr c hc others free => ?_⟩
  · have stopped : (s.taken 0x29).scanner.running = false := hr
    refine congrArg Host.Outcome.next ((cmdByte_takes (work := stopScanWork) hs).trans ?_)
    exact (stopScanWork_eq (s.taken 0x29)).trans (if_neg (by rw [stopped]; nofun))
  · exact State.releases_scanner ..
  · exact (congrArg (·[c]) (State.releasedInTurn_chanLive ..)).trans (s.suspended_chanLive_measured c)
  · refine (State.releasedInTurn_held ..).trans ?_
    rw [hc, Bool.not_true, Bool.and_false]
  · refine (State.releasedInTurn_held ..).trans ?_
    rw [show hasChan s.suspended.held c = s.chanLive[c].state.isDown from held c, Bool.and_not_self]
    exact (by revert c; decide : ∀ c : Chan, false = hasChan 0 c) c
  · rw [State.releasedInTurn_none .halt up]
    rfl
  · rw [exec_stopScan hs hr, State.releasedInTurn_single .halt hc others,
      State.releasedFor_noTracker (s := s.suspended) .halt c free]
    rw [show s.suspended.chanLive[c].pressTime = s.chanLive[c].pressTime by
      rw [State.suspended_chanLive]; split <;> rfl]
    rfl

/-! ## The scanner's starts (R1, R3, R6) -/

/-- R3: a scan that starts. -/
theorem State.beginScan_eq (s : State) (t : Time) : s.beginScan t = { s with scanner :=
    { running := s.scanner.running, lastScan := some t, nextScan := some (t + BitVec.ofNat 32 s.globals.scanPeriod)
      scan := scanOf (measuredIn s.chanLive) } } := by
  have list : s.measured = measuredIn s.chanLive :=
    List.filter_congr fun c _ => Bool.eq_iff_iff.2 ((isMeasured_iff _).trans decide_eq_true_iff.symm)
  unfold State.beginScan
  rw [list]
  simp only [scanOf, List.isEmpty_iff, addMs]

theorem reached_iff (d t : Time) : reached d t = true ↔ (t - d).toNat < 2 ^ 31 :=
  (dueAt_iff true d t).trans (and_iff_left nofun)

theorem exec_scanStart (s : State) : exec .scanStart s = .next (if s.scanDue = true then
    (match s.scanner.nextScan with
    | none => s
    | some t => s.beginScan t) else s) := rfl

theorem State.scanDue_iff (s : State) : s.scanDue = true ↔
    s.scanner.running = true ∧ ∃ n, s.scanner.nextScan = some n ∧ (s.time - n).toNat < 2 ^ 31 := by
  unfold State.scanDue
  rw [Bool.and_eq_true]
  refine and_congr_right fun _ => ?_
  cases s.scanner.nextScan with
  | none => simp
  | some n => simp [reached_iff]

/-- Settles O15: a scan is due or not (`State.scanDue_iff`), and begins as `State.beginScan_eq` says. -/
theorem tickAndScanStart : Obligations.TickAndScanStart := by
  refine ⟨fun s => rfl, fun s n hr hn hd => ?_, fun s h => ?_, fun s n hn hd => ?_⟩
  · rw [exec_scanStart, if_pos (s.scanDue_iff.2 ⟨hr, n, hn, hd⟩), hn]
    simp only [State.beginScan_eq, hr]
  · rw [exec_scanStart, if_neg]
    intro due
    obtain ⟨running, n, next, -⟩ := s.scanDue_iff.1 due
    rcases h with h | h
    · cases running.symm.trans h
    · cases next.symm.trans h
  · rw [exec_scanStart, if_neg]
    intro due
    obtain ⟨-, m, next, before⟩ := s.scanDue_iff.1 due
    cases hn.symm.trans next
    omega

/-- Settles O16: by whether the scanner runs. -/
theorem startScanStartsTheScanner : Obligations.StartScanStartsTheScanner := by
  intro s hs
  have start : exec .startScan s = .next (startScanWork (s.taken 0x28)) :=
    congrArg Host.Outcome.next (cmdByte_takes (work := startScanWork) hs)
  refine ⟨fun hr => ?_, fun hr => ?_⟩
  · rw [start, startScanWork_eq, if_pos (show (s.taken 0x28).scanner.running = true from hr)]
    rfl
  · have stopped : (s.taken 0x28).scanner.running = false := hr
    rw [start, startScanWork_eq, if_neg (by rw [stopped]; nofun), State.beginScan_eq]
    rfl

/-! ## RECALIBRATE (R34) -/

/-- R34: what RECALIBRATE makes of a channel of its set. -/
def recalLive (target : ChanState) (x : ChanLive) : ChanLive := if x.state = .off then x else enterCleared target x

theorem recalibrateOne_turn (c : Chan) (v : State) :
    recalibrateOne c v = v.turn .recal (recalLive v.settleTarget) c := by
  unfold recalibrateOne
  dsimp only
  split
  · next hs => exact (State.turn_self (g := recalLive v.settleTarget) (by rw [hs]; rfl) (if_pos hs)).symm
  · next hs =>
    rw [State.chanStep_turn v v.settleTarget (cause := .recal) nofun]
    exact State.turn_congr (if_neg hs).symm

theorem recalLive_pressTime (target : ChanState) (x : ChanLive) : (recalLive target x).pressTime = x.pressTime := by
  unfold recalLive
  split <;> rfl

/-- R34: the turns of the channels of a set, one after another, all with one target. -/
theorem foldl_recalibrateOne (set : ChanSet) (s : State) :
    allChans.foldl (fun v c => if hasChan set c then recalibrateOne c v else v) s =
      (allChans.filter fun c => hasChan set c).foldl (State.turn .recal (recalLive s.settleTarget)) s := by
  rw [List.foldl_filter]
  generalize allChans = l
  suffices h : ∀ v : State, v.settleTarget = s.settleTarget →
      l.foldl (fun v c => if hasChan set c then recalibrateOne c v else v) v =
        l.foldl (fun v c => if hasChan set c then v.turn .recal (recalLive s.settleTarget) c else v) v from h s rfl
  induction l with
  | nil => exact fun _ _ => rfl
  | cons c l ih =>
    intro v hv
    rw [List.foldl_cons, List.foldl_cons, recalibrateOne_turn, hv]
    refine ih _ ?_
    split <;> exact hv

/-- R34: RECALIBRATE before its releases. -/
def State.recalled (s : State) (set : ChanSet) (target : ChanState) : State :=
  { s with
    chanLive := Vector.ofFn fun d : Chan => if set.getLsbD d.val = true ∧ s.chanLive[d].state ≠ ChanState.off then
      s.chanLive[d].cleared target else s.chanLive[d] }

theorem State.recalled_chanLive (s : State) (set : ChanSet) (target : ChanState) (c : Chan) :
    (s.recalled set target).chanLive[c] = if set.getLsbD c.val = true ∧ s.chanLive[c].state ≠ ChanState.off then
      s.chanLive[c].cleared target else s.chanLive[c] := getElem_ofFn_fin _ c

theorem recalSet_eq (a b : Byte) : recalSet a b = a.setWidth 12 ||| b.setWidth 12 <<< 8 := by
  refine BitVec.eq_of_toNat_eq ?_
  have shift : (b.toNat <<< 8) % 2 ^ 12 = (b.toNat % 16) <<< 8 := by
    simp only [Nat.shiftLeft_eq]
    omega
  have low : a.toNat % 2 ^ 12 = a.toNat := Nat.mod_eq_of_lt (by omega)
  have high : b.toNat % 2 ^ 12 = b.toNat := Nat.mod_eq_of_lt (by omega)
  simp only [recalSet, word16, BitVec.toNat_ofNat, BitVec.toNat_or, BitVec.toNat_shiftLeft, BitVec.toNat_setWidth, low,
    high, shift]
  rw [Nat.or_comm, ← Nat.shiftLeft_add_eq_or_of_lt (show a.toNat < 2 ^ 8 from a.isLt), Nat.shiftLeft_eq]
  omega

theorem State.recalled_taken (s : State) (code : Byte) (set : ChanSet) (target : ChanState) :
    (s.taken code).recalled set target = (s.recalled set target).taken code := rfl

/-- R34: the channels of the set one at a time are their releases in turn, with the new live records. -/
theorem foldl_recalibrateOne_eq (set : ChanSet) (s : State) :
    allChans.foldl (fun v c => if hasChan set c then recalibrateOne c v else v) s =
      (s.recalled set s.settleTarget).releasedInTurn .recal
        fun c => set.getLsbD c.val && s.chanLive[c].state.isDown := by
  have cleared (c : Chan) : (s.recalled set s.settleTarget).chanLive[c].pressTime = s.chanLive[c].pressTime := by
    rw [State.recalled_chanLive]
    split <;> rfl
  have after : (s.recalled set s.settleTarget).releasedInTurn .recal
      (fun c => set.getLsbD c.val && s.chanLive[c].state.isDown) =
        (s.releases .recal (allChans.filter fun c => set.getLsbD c.val && s.chanLive[c].state.isDown)).withScan
          s.scanner (s.recalled set s.settleTarget).chanLive :=
    State.releases_withScan (s := s) s.scanner fun c _ => cleared c
  have both : (allChans.filter fun c => hasChan set c).filter (fun c => s.chanLive[c].state.isDown) =
      allChans.filter fun c => set.getLsbD c.val && s.chanLive[c].state.isDown := by
    rw [List.filter_filter]
    exact List.filter_congr fun c _ => Bool.and_comm ..
  rw [foldl_recalibrateOne, State.turns_eq (recalLive_pressTime _) (allChans_nodup.filter _), after, both]
  refine congrArg (State.withScan _ _) (Vector.ext fun i hi => ?_)
  rw [Vector.getElem_ofFn]
  refine Eq.trans ?_ (s.recalled_chanLive set s.settleTarget ⟨i, hi⟩).symm
  simp only [allChans, List.mem_filter, List.mem_finRange, true_and, hasChan, recalLive, enterCleared_eq_cleared]
  by_cases hm : set.getLsbD i = true
  · simp [hm]
  · simp [hm]

theorem exec_recalibrate {s : State} {set : ChanSet} {target : ChanState} (hs : s.Takes)
    (hset : set = (s.engine.arg0.setWidth 12 ||| s.engine.arg1.setWidth 12 <<< 8))
    (ht : target = (if s.scanner.running then .settling else .suspended)) : exec .recalibrate s = .next
      (((s.recalled set target).releasedInTurn .recal
        fun c => set.getLsbD c.val && s.chanLive[c].state.isDown).posted 0x2A#8 .ok 0) := by
  refine congrArg Host.Outcome.next ((cmdByte_takes (work := recalibrateWork) hs).trans ?_)
  have target_eq : (s.taken 0x2A).settleTarget = target := ht.symm
  unfold recalibrateWork
  dsimp only
  rw [← State.taken, foldl_recalibrateOne_eq, target_eq, recalSet_eq, State.recalled_taken, State.releasedInTurn_taken,
    State.taken_postOk]
  subst hset
  rfl

/-- Settles O23: each channel of the set takes its turn, and the releases follow in turn. -/
theorem recalibrateSettlesTheSet : Obligations.RecalibrateSettlesTheSet := by
  intro s set target hs hset ht
  have run := exec_recalibrate hs hset ht
  refine ⟨⟨_, run, fun c => ?_, fun c hc hd => ?_, State.releasedInTurn_engine .., fun up => ?_⟩, run,
    fun c hc hd free => ?_⟩
  · exact (congrArg (·[c]) (State.releasedInTurn_chanLive ..)).trans (s.recalled_chanLive set target c)
  · refine (State.releasedInTurn_held ..).trans ?_
    rw [hc, hd, Bool.and_self, Bool.not_true, Bool.and_false]
  · rw [State.releasedInTurn_none .recal fun c => ?_]
    · rfl
    · by_cases hc : set.getLsbD c.val = true
      · rw [up c hc, Bool.and_false]
      · rw [Bool.eq_false_of_not_eq_true hc, Bool.false_and]
  · have inSet (d : Chan) : set.getLsbD d.val = decide (c = d) := by rw [hc]; exact hasChan_chanBit c d
    have lives : (s.recalled set target).chanLive = s.chanLive.set c (s.chanLive[c].cleared target) := by
      refine Vector.ext fun i hi => (s.recalled_chanLive set target ⟨i, hi⟩).trans ?_
      refine Eq.trans ?_ (getElem_set_fin s.chanLive c ⟨i, hi⟩ _).symm
      rw [inSet]
      by_cases hi' : c = ⟨i, hi⟩
      · have up : s.chanLive[c].state ≠ .off := by rintro e; rw [e] at hd; cases hd
        subst hi'
        rw [if_pos rfl, if_pos ⟨decide_eq_true rfl, up⟩]
      · rw [if_neg hi', if_neg fun h => hi' (of_decide_eq_true h.1)]
    have whole : s.recalled set target = { s with chanLive := s.chanLive.set c (s.chanLive[c].cleared target) } :=
      congrArg (fun live => { s with chanLive := live }) lives
    have press : (s.recalled set target).chanLive[c].pressTime = s.chanLive[c].pressTime := by
      rw [State.recalled_chanLive]
      split <;> rfl
    rw [run, State.releasedInTurn_single .recal (c := c) (by rw [inSet, hd]; simp) fun d hdc => by
      rw [inSet, decide_eq_false (Ne.symm hdc), Bool.false_and],
      State.releasedFor_noTracker (s := s.recalled set target) .recal c free]
    rw [press, whole]

end Sys2Proof.Machine
end

section
/-! PROOF. O24, O25 and O26: WRITE_RECORD and READ_RECORD (02_channel_conditioning.md, section 2.5;
08_host_port_and_command_engine.md, section 8.5). -/

namespace Sys2Proof.Machine

/-! ## CHANNEL writes (R31) -/

/-- A turn that hands nothing on. -/
theorem State.chanStep_quiet (s : State) (c : Chan) (l : ChanLive) : s.chanStep none c (l, []) = s.setLive c l := rfl

theorem writeChannel_settles {s : State} {c : Chan} {cfg : ChanCfg} (he : cfg.enable = true)
    (hs : s.chanLive[c].state = .off ∨ s.chanLive[c].state = .fault) : writeChannel c cfg s =
      { s with
        chanCfg := s.chanCfg.set c cfg, chanLive := s.chanLive.set c (s.chanLive[c].cleared s.settleTarget) } := by
  unfold writeChannel
  dsimp only
  rw [if_pos he]
  rcases hs with hs | hs <;> rw [hs] <;> rfl

theorem writeChannel_suspended {s : State} {c : Chan} {cfg : ChanCfg} (he : cfg.enable = true)
    (hs : s.chanLive[c].state = .suspended) : writeChannel c cfg s =
      { s with chanCfg := s.chanCfg.set c cfg, chanLive := s.chanLive.set c (s.chanLive[c].cleared .suspended) } := by
  unfold writeChannel
  dsimp only
  rw [if_pos he, hs]
  rfl

theorem writeChannel_measured {s : State} {c : Chan} {cfg : ChanCfg} (he : cfg.enable = true)
    (hs : s.chanLive[c].state ∈ measuredStates) :
    writeChannel c cfg s = { s with chanCfg := s.chanCfg.set c cfg } := by
  rw [← isMeasured_iff] at hs
  unfold writeChannel
  dsimp only
  rw [if_pos he]
  cases h : s.chanLive[c].state
  case off | suspended | fault => rw [h] at hs; cases hs
  all_goals rfl

theorem writeChannel_stays {s : State} {c : Chan} {cfg : ChanCfg} (he : cfg.enable = false)
    (hs : s.chanLive[c].state = .off) : writeChannel c cfg s = { s with chanCfg := s.chanCfg.set c cfg } := by
  unfold writeChannel
  dsimp only
  rw [if_neg (by rw [he]; nofun), if_pos hs]

theorem writeChannel_disables {s : State} {c : Chan} {cfg : ChanCfg} (he : cfg.enable = false)
    (hs : s.chanLive[c].state ≠ .off) (hd : s.chanLive[c].state.isDown = false) : writeChannel c cfg s =
      { s with chanCfg := s.chanCfg.set c cfg, chanLive := s.chanLive.set c (s.chanLive[c].cleared .off) } := by
  unfold writeChannel
  dsimp only
  rw [if_neg (by rw [he]; nofun), if_neg hs, leaveTo, if_neg (by rw [hd]; nofun), State.chanStep_quiet]
  rfl

theorem writeChannel_releases {s : State} {c : Chan} {cfg : ChanCfg} (he : cfg.enable = false)
    (hd : s.chanLive[c].state.isDown = true) : writeChannel c cfg s =
      State.releasedFor { s with
        chanCfg := s.chanCfg.set c cfg, chanLive := s.chanLive.set c (s.chanLive[c].cleared .off) } .disabled c := by
  have up : s.chanLive[c].state ≠ .off := by rintro e; rw [e] at hd; cases hd
  unfold writeChannel
  dsimp only
  rw [if_neg (by rw [he]; nofun), if_neg up]
  exact State.chanStep_leaveTo { s with chanCfg := s.chanCfg.set c cfg } .off .disabled c nofun hd

/-! ## WRITE_RECORD (R157) -/

theorem exec_writeRecord {s : State} (hs : s.Takes) : exec .writeRecord s = .next (writeRecordWork (s.taken 0x02)) :=
  congrArg Host.Outcome.next (cmdByte_takes (work := writeRecordWork) hs)

theorem writeRecordWork_channel {v : State} (h : v.engine.arg0 = 1) :
    writeRecordWork v = match indexOf 12 v.engine.arg1 with
      | none => v.postResult .badIndex 1
      | some c => v.writeJudged (readChannel v.engine.buf) (writeChannel c) := by
  unfold writeRecordWork
  rw [h]
  rfl

theorem State.writeJudged_bad {α : Type} {v : State} {j : Judged α} {f : α → State → State} {n : Nat}
    (h : j = .bad n) : v.writeJudged j f = v.postResult .badValue (byteOf n) := by subst h; rfl

theorem State.writeJudged_good {α : Type} {v : State} {j : Judged α} {f : α → State → State} {x : α}
    (h : j = .good x) : v.writeJudged j f = (f x v).postOk := by subst h; rfl

/-- R157: WRITE_RECORD of a CHANNEL record in range. -/
theorem exec_writeChannel {s u : State} {c : Chan} {cfg : ChanCfg} (hs : s.Takes) (h0 : s.engine.arg0 = 1)
    (h1 : s.engine.arg1 = BitVec.ofNat 8 c.val) (hr : readChannel s.engine.buf = .good cfg)
    (hu : writeChannel c cfg (s.taken 0x02) = u.taken 0x02) : exec .writeRecord s = .next (u.posted 0x02#8 .ok 0) := by
  have read : readChannel (s.taken 0x02).engine.buf = .good cfg := hr
  have index : indexOf 12 (s.taken 0x02).engine.arg1 = some c :=
    (congrArg (indexOf 12) h1).trans (indexOf_ofNat c (by decide))
  rw [exec_writeRecord hs, writeRecordWork_channel (v := s.taken 0x02) h0, index]
  dsimp only
  rw [State.writeJudged_good read, hu, State.taken_postOk]
  rfl

/-- Settles O24: by the refusals of the table and then the channel's state. -/
theorem channelWritesMoveTheChannel : Obligations.ChannelWritesMoveTheChannel := by
  intro s hs h0
  refine ⟨fun h1 => ?_, fun c h1 => ⟨fun n hn => ?_, fun cfg l hr hl => ?_⟩⟩
  · rw [exec_writeRecord hs, writeRecordWork_channel (v := s.taken 0x02) h0,
      show indexOf 12 (s.taken 0x02).engine.arg1 = none from indexOf_none h1]
    rfl
  · rw [exec_writeRecord hs, writeRecordWork_channel (v := s.taken 0x02) h0,
      show indexOf 12 (s.taken 0x02).engine.arg1 = some c from
        (congrArg (indexOf 12) h1).trans (indexOf_ofNat c (by decide))]
    dsimp only
    rw [State.writeJudged_bad (show readChannel (s.taken 0x02).engine.buf = .bad n from hn)]
    rfl
  · subst hl
    have release (hd : cfg.enable = false) (down : s.chanLive[c].state.isDown = true) : exec .writeRecord s =
        .next ((State.releasedFor { s with
          chanCfg := s.chanCfg.set c cfg
          chanLive := s.chanLive.set c (s.chanLive[c].cleared .off) } .disabled c).posted 0x02#8 .ok 0) :=
      exec_writeChannel hs h0 h1 hr ((writeChannel_releases (s := s.taken 0x02) hd down).trans
        (State.releasedFor_taken { s with
          chanCfg := s.chanCfg.set c cfg
          chanLive := s.chanLive.set c (s.chanLive[c].cleared .off) } 0x02 .disabled c))
    refine ⟨fun he hst => ?_, fun he hst => ?_, fun hoff h => ?_, fun he hst => ?_, release, fun he hd free => ?_⟩
    · exact exec_writeChannel hs h0 h1 hr (writeChannel_settles (s := s.taken 0x02) he hst)
    · exact exec_writeChannel hs h0 h1 hr (writeChannel_measured (s := s.taken 0x02) he hst)
    · rcases h with ⟨he, hst⟩ | ⟨he, hd⟩
      · rw [if_pos he]
        exact exec_writeChannel hs h0 h1 hr (writeChannel_suspended (s := s.taken 0x02) he hst)
      · rw [if_neg (by rw [he]; nofun)]
        exact exec_writeChannel hs h0 h1 hr (writeChannel_disables (s := s.taken 0x02) he hoff hd)
    · exact exec_writeChannel hs h0 h1 hr (writeChannel_stays (s := s.taken 0x02) he hst)
    · rw [release he hd, State.releasedFor_noTracker (s := { s with
        chanCfg := s.chanCfg.set c cfg
        chanLive := s.chanLive.set c (s.chanLive[c].cleared .off) }) .disabled c free]
      simp only [getElem_set_fin, if_true]
      rfl

/-! ## GLOBALS and OUTPUT writes (R112, R113, R144, R158) -/

theorem writeRecordWork_globals {v : State} (h : v.engine.arg0 = 0) :
    writeRecordWork v = v.writeJudged (readGlobals v.engine.buf) writeGlobals := by
  unfold writeRecordWork
  rw [h]
  rfl

theorem writeRecordWork_output {v : State} (h : v.engine.arg0 = 3) :
    writeRecordWork v = match indexOf 6 v.engine.arg1 with
      | none => v.postResult .badIndex 1
      | some o => v.writeJudged (readOutput v.engine.buf) (writeOutput o) := by
  unfold writeRecordWork
  rw [h]
  rfl

theorem writeRecordWork_readOnly {v : State} (h : v.engine.arg0 ∈ [2#8, 4#8, 5#8, 6#8, 7#8]) :
    writeRecordWork v = v.postResult .readOnly 0 := by
  unfold writeRecordWork
  simp only [List.mem_cons, List.not_mem_nil, or_false] at h
  rcases h with h | h | h | h | h <;> rw [h] <;> rfl

theorem writeRecordWork_noTable {v : State} (h : 8 ≤ v.engine.arg0.toNat) :
    writeRecordWork v = v.postResult .badIndex 0 := by
  unfold writeRecordWork
  split
  case h_9 => rfl
  all_goals omega

/-- R144: a byte of the bus that changes acknowledgement and pointer alone leaves the offer of an ADDRESS as it is. -/
theorem writeGlobals_taken (g : Globals) (s : State) (code : Byte) : writeGlobals g (s.taken code) =
    State.taken { s with
      globals := g
      port := if s.port.strap then s.port
        else { s.port with waiting := if g.address = s.port.inUse then none else some g.address } } code := by
  have strap : (s.taken code).port.strap = s.port.strap := rfl
  unfold writeGlobals offerAddress
  rw [strap]
  by_cases h : s.port.strap = true
  · rw [if_pos h, if_pos h]
    rfl
  · rw [if_neg h, if_neg h]
    rfl

theorem outFromRecord_eq (c : OutCfg) :
    outFromRecord c = if c.enable = false then .off else if c.initialHigh then .high else .low := by
  unfold outFromRecord
  cases c.enable <;> rfl

/-- Settles O25: each table's judgement, then the write. -/
theorem globalsAndOutputWrites : Obligations.GlobalsAndOutputWrites := by
  intro s hs
  have run := exec_writeRecord hs
  refine ⟨fun h0 => ⟨fun n hn => ?_, fun g hg => ?_⟩,
      fun h0 => ⟨fun h1 => ?_, fun o h1 => ⟨fun n hn => ?_, fun c hc => ?_⟩⟩,
    fun h0 => ?_, fun h0 => ?_⟩
  · rw [run, writeRecordWork_globals (v := s.taken 0x02) h0,
      State.writeJudged_bad (show readGlobals (s.taken 0x02).engine.buf = .bad n from hn)]
    rfl
  · rw [run, writeRecordWork_globals (v := s.taken 0x02) h0,
      State.writeJudged_good (show readGlobals (s.taken 0x02).engine.buf = .good g from hg), writeGlobals_taken,
      State.taken_postOk]
    rfl
  · rw [run, writeRecordWork_output (v := s.taken 0x02) h0,
      show indexOf 6 (s.taken 0x02).engine.arg1 = none from indexOf_none h1]
    rfl
  · rw [run, writeRecordWork_output (v := s.taken 0x02) h0,
      show indexOf 6 (s.taken 0x02).engine.arg1 = some o from
        (congrArg (indexOf 6) h1).trans (indexOf_ofNat o (by decide))]
    dsimp only
    rw [State.writeJudged_bad (show readOutput (s.taken 0x02).engine.buf = .bad n from hn)]
    rfl
  · rw [run, writeRecordWork_output (v := s.taken 0x02) h0,
      show indexOf 6 (s.taken 0x02).engine.arg1 = some o from
        (congrArg (indexOf 6) h1).trans (indexOf_ofNat o (by decide))]
    dsimp only
    rw [State.writeJudged_good (show readOutput (s.taken 0x02).engine.buf = .good c from hc), writeOutput,
      outFromRecord_eq]
    rfl
  · rw [run, writeRecordWork_readOnly (v := s.taken 0x02) h0]
    rfl
  · rw [run, writeRecordWork_noTable (v := s.taken 0x02) h0]
    rfl

/-! ## READ_RECORD (R156) -/

theorem exec_readRecord {s : State} (hs : s.Takes) : exec .readRecord s = .next (readRecordWork (s.taken 0x01)) :=
  congrArg Host.Outcome.next (cmdByte_takes (work := readRecordWork) hs)

theorem exec_readRecord_accept {s : State} {b : Buf} (hs : s.Takes) (h : s.recordAsked = .accept b) :
    exec .readRecord s = .next ({ s with engine := { s.engine with buf := b } }.posted 0x01#8 .ok 0) := by
  have asked : (s.taken 0x01).recordAsked = .accept b := h
  rw [exec_readRecord hs, readRecordWork, asked]
  rfl

theorem exec_readRecord_reject {s : State} {d : Byte} (hs : s.Takes) (h : s.recordAsked = .reject .badIndex d) :
    exec .readRecord s = .next (s.posted 0x01#8 .badIndex d) := by
  have asked : (s.taken 0x01).recordAsked = .reject .badIndex d := h
  rw [exec_readRecord hs, readRecordWork, asked]
  rfl

theorem indexed_some {n : Nat} {b : Byte} {f : Fin n → Buf} {i : Fin n} (hn : n ≤ 256) (h : b = BitVec.ofNat 8 i.val) :
    indexed b f = .accept (f i) := by
  rw [indexed, h, indexOf_ofNat i hn]

theorem indexed_none {n : Nat} {b : Byte} {f : Fin n → Buf} (h : n ≤ b.toNat) : indexed b f = .reject .badIndex 1 := by
  rw [indexed, indexOf_none h]

theorem State.recordAsked_noTable {s : State} (h : 8 ≤ s.engine.arg0.toNat) : s.recordAsked = .reject .badIndex 0 := by
  unfold State.recordAsked
  split
  case h_9 => rfl
  all_goals omega

theorem State.recordAsked_step {s : State} (h : s.engine.arg0 = 5) : s.recordAsked = stepRecord s := by
  unfold State.recordAsked
  rw [h]
  rfl

theorem stepRecord_at {s : State} {p : PatIdx} (h : s.engine.arg1 = BitVec.ofNat 8 p.val) :
    stepRecord s = match s.patDef[p].steps[s.engine.arg2.toNat]? with
      | none => .reject .badIndex 2
      | some x => .accept (showStep x) := by
  unfold stepRecord
  rw [h, indexOf_ofNat p (by decide)] <;> rfl

/-- R156: an index beyond the table that ARG0 names. -/
theorem State.recordAsked_noIndex {s : State}
    (h : s.engine.arg0 ∈ [1#8, 2#8] ∧ 12 ≤ s.engine.arg1.toNat ∨ s.engine.arg0 ∈ [3#8, 6#8] ∧ 6 ≤ s.engine.arg1.toNat
        ∨ s.engine.arg0 ∈ [4#8, 5#8] ∧ 24 ≤ s.engine.arg1.toNat) : s.recordAsked = .reject .badIndex 1 := by
  simp only [List.mem_cons, List.not_mem_nil, or_false] at h
  unfold State.recordAsked
  rcases h with ⟨h0 | h0, h1⟩ | ⟨h0 | h0, h1⟩ | ⟨h0 | h0, h1⟩ <;> rw [h0]
  case inr.inr.inr => exact (by rw [stepRecord, indexOf_none h1] : stepRecord s = _)
  all_goals exact indexed_none h1

end Sys2Proof.Machine
end

section
/-! PROOF. O26 continued: the layouts of the records (10_register_and_record_formats.md, section 10.4), and the
obligation. -/

namespace Sys2Proof.Machine

/-! ## Items as bytes -/

theorem byteOf_eq (n : Nat) : [byteOf n] = leBytes 1 n := (leBytes_one n).symm

theorem byteOfBool_eq (b : Bool) : [byteOfBool b] = flagByte b := (flagByte_eq b).symm

/-- Two items of four bits in one byte. -/
theorem nibbles_eq (c : Byte) (hc : c.toNat < 16) (n : Nat) :
    c ||| (byteOf n <<< 4) = BitVec.ofNat 8 (c.toNat + 16 * n) := by
  refine BitVec.eq_of_toNat_eq ?_
  have shift : (n % 256) <<< 4 % 256 = (n % 16) <<< 4 := by
    simp only [Nat.shiftLeft_eq]
    omega
  simp only [byteOf, BitVec.toNat_or, BitVec.toNat_shiftLeft, BitVec.toNat_ofNat]
  rw [show (2 : Nat) ^ 8 = 256 from rfl, shift, Nat.or_comm,
      ← Nat.shiftLeft_add_eq_or_of_lt (show c.toNat < 2 ^ 4 from hc),
    Nat.shiftLeft_eq]
  omega

theorem recordOf_full {l : List Byte} (h : l.length = 16) : recordOf l = l := by
  rw [recordOf, h]
  exact List.append_nil l

theorem fillBuf_layout {l m : List Byte} (h : l.length.ble 16 = true) (e : l = m) : (fillBuf l).toList = recordOf m :=
  (fillBuf_toList l (Nat.le_of_ble_eq_true h)).trans (congrArg recordOf e)

/-! ## Layouts -/

theorem showGlobals_toList (g : Globals) : (showGlobals g).toList =
    recordOf (leBytes 1 g.scanPeriod ++ flagByte g.scanAtStart ++ leBytes 1 g.address.toNat) := by
  refine fillBuf_layout rfl ?_
  rw [leBytes_one, leBytes_one, flagByte_eq, BitVec.ofNat_toNat]
  rfl

theorem showChannel_toList (c : ChanCfg) : (showChannel c).toList = recordOf (flagByte c.enable ++ flagByte c.report
    ++ leBytes 2 c.touch ++ leBytes 2 c.hyst ++ leBytes 1 c.pressDb ++ leBytes 1 c.releaseDb ++ leBytes 1 c.noiseBand
    ++ leBytes 1 c.trackInterval ++ leBytes 1 c.maxHold ++ leBytes 2 c.driftLimit) := by
  refine fillBuf_layout rfl ?_
  simp only [bytesOfNat16_eq, flagByte_eq, leBytes_one]
  simp only [List.append_assoc]
  rfl

theorem showLive_toList (l : ChanLive) : (showLive l).toList = recordOf ([l.state.code] ++ leBytes 2 l.raw
    ++ leBytes 2 l.baseline ++ leBytes 2 l.reference ++ leBytes 2 (l.signal % 65536).toNat ++ leBytes 1 l.debounce
    ++ leBytes 1 l.satCount ++ [l.faultReason.code] ++ leBytes 2 l.pressTime.toNat ++ leBytes 1 l.settleCount) := by
  refine fillBuf_layout rfl ?_
  simp only [bytesOfNat16_eq, bytes16_ofInt, bytes16_shortTime, leBytes_one]
  simp only [List.append_assoc]
  rfl

/-- Section 10.4.4, offsets 8 to 12: an output's live state. -/
def outLiveBytes (o : OutState) : List Byte :=
  match o with
  | .off => [0x00#8, 0, 0, 0, 0]
  | .low => [0x01#8, 0, 0, 0, 0]
  | .high => [0x02#8, 0, 0, 0, 0]
  | .pulsing due => [0x03#8] ++ leBytes 2 due.toNat ++ [0, 0]
  | .following set => [0x04#8, 0, 0] ++ leBytes 2 set.toNat

theorem outLiveBytes_eq (o : OutState) :
    [o.code] ++ bytes16 o.dueShort ++ bytesOfChans o.followSet = outLiveBytes o := by
  cases o with
  | off | low | high => rfl
  | pulsing due =>
    rw [OutState.dueShort, bytes16_shortTime, show bytesOfChans (OutState.pulsing due).followSet = [0, 0] from
      (by decide : bytesOfChans 0 = [0, 0])]
    rfl
  | following set =>
    rw [OutState.followSet, bytesOfChans_eq, show bytes16 (OutState.following set).dueShort = [0, 0] from
      (by decide : bytes16 0 = [0, 0])]
    rfl

theorem showOutput_toList (c : OutCfg) (o : OutState) : (showOutput c o).toList = recordOf (flagByte c.enable
    ++ flagByte (c.drive == .openDrain) ++ flagByte (c.polarity == .activeLow) ++ flagByte (c.mode == .host)
    ++ flagByte (c.retrigger == .keep) ++ flagByte c.initialHigh ++ [0, 0] ++ outLiveBytes o) := by
  refine fillBuf_layout rfl ?_
  rw [← outLiveBytes_eq]
  simp only [flagByte_eq]
  simp only [List.append_assoc]
  rfl

theorem PatState.code_lt (st : PatState) : st.code.toNat < 16 := by cases st <;> decide

theorem actionOutCode_eq (o : Option OutIdx) : [actionOutCode o] = match o with
    | none => [0xFF#8]
    | some o => leBytes 1 o.val := by
  cases o with
  | none => rfl
  | some o => exact byteOf_eq _

theorem rearmCode_eq (r : Rearm) : rearmCode r = match r with
    | .once => 0x00#8 | .again => 0x01#8 | .afterRelease => 0x02#8 := by cases r <;> rfl

theorem opCode_eq (o : ActionOp) : opCode o = match o with
    | .set => 0x00#8 | .clear => 0x01#8 | .toggle => 0x02#8 | .pulse => 0x03#8 | .follow => 0x04#8 := by cases o <;> rfl

theorem kindCode_eq (k : Kind) : kindCode k = match k with
    | .chord => 0x01#8 | .tap => 0x02#8 | .hold => 0x03#8 | .lift => 0x04#8 | .quiet => 0x05#8 := by cases k <;> rfl

theorem showPattern_toList (d : PatDef) (st : PatState) (h : PatHeader) (hd : h = d.header) :
    (showPattern d st).toList =
      leBytes 1 h.priority.val ++ [h.tag] ++ flagByte h.strict ++ flagByte h.claim ++ flagByte h.defer
        ++ flagByte h.reportDone ++ flagByte h.reportAbort
        ++ [match h.rearm with | .once => 0x00#8 | .again => 0x01#8 | .afterRelease => 0x02#8]
        ++ flagByte h.startEnabled ++ leBytes 1 h.window
        ++ (match h.actionOut with
          | none => [0xFF#8]
          | some o => leBytes 1 o.val)
        ++ [match h.actionOp with
          | .set => 0x00#8 | .clear => 0x01#8 | .toggle => 0x02#8 | .pulse => 0x03#8 | .follow => 0x04#8]
        ++ leBytes 1 h.pulseLen ++ leBytes 1 (st.code.toNat + 16 * d.steps.length) ++ leBytes 2 d.univ.toNat := by
  subst hd
  refine (fillBuf_layout rfl rfl).trans ((recordOf_full rfl).trans ?_)
  rw [← actionOutCode_eq, ← rearmCode_eq,
    ← opCode_eq, ← bytesOfChans_eq]
  simp only [leBytes_one, flagByte_eq, nibbles_eq _ st.code_lt]
  simp only [List.append_assoc]
  rfl

theorem showStep_toList (x : Step) : (showStep x).toList = recordOf
    ([match x.kind with | .chord => 0x01#8 | .tap => 0x02#8 | .hold => 0x03#8 | .lift => 0x04#8 | .quiet => 0x05#8]
      ++ leBytes 2 x.channels.toNat ++ leBytes 1 x.earliest ++ leBytes 1 x.latest ++ leBytes 1 x.span) := by
  refine fillBuf_layout rfl ?_
  rw [← kindCode_eq]
  simp only [bytesOfChans_eq, leBytes_one]
  simp only [List.append_assoc]
  rfl

theorem dueCode_eq (x : Option (DueKind × Time)) :
    dueCode x = BitVec.ofNat 8 (dueKindNumber x) ∧ dueKindNumber x < 6 := by
  rcases x with _ | ⟨k, t⟩
  · decide
  · cases k <;> exact ⟨rfl, Nat.le_of_ble_eq_true rfl⟩

/-- Section 10.4.7: a code below 6 and three flag bits in one byte. -/
theorem presence_bits : ∀ (n : Fin 6) (a b c : Bool),
    BitVec.ofNat 8 n.val ||| (if a then 0x10#8 else 0) ||| (if b then 0x20#8 else 0) ||| (if c then 0x40#8 else 0) =
      BitVec.ofNat 8 (n.val + (if a then 16 else 0) + (if b then 32 else 0) + (if c then 64 else 0)) := by decide

theorem presence_eq (w : Waiting) : presence w = BitVec.ofNat 8 (dueKindNumber w.stepDue
    + (if w.overallDue.isSome then 16 else 0) + (if w.chordStart.isSome then 32 else 0)
    + (if w.tapPress.isSome then 64 else 0)) := by
  obtain ⟨code, lt⟩ := dueCode_eq w.stepDue
  rw [presence, code]
  exact presence_bits ⟨_, lt⟩ _ _ _

theorem showTracker_waiting_toList (w : Waiting) :
    (showTracker (.waiting w)).toList = recordOf ([0x01] ++ leBytes 1 w.pattern.val ++ leBytes 1 w.step
      ++ leBytes 1 (dueKindNumber w.stepDue + (if w.overallDue.isSome then 16 else 0)
        + (if w.chordStart.isSome then 32 else 0) + (if w.tapPress.isSome then 64 else 0))
      ++ leBytes 2 w.startTime.toNat ++ leBytes 2 w.stepStart.toNat ++ leBytes 2 w.collected.toNat
      ++ shortOf (w.chordStart <|> w.tapPress) ++ shortOf (w.stepDue.map Prod.snd) ++ shortOf w.overallDue) := by
  have mark : (if w.chordStart.isSome then optShort w.chordStart else optShort w.tapPress) =
      optShort (w.chordStart <|> w.tapPress) := by
    cases w.chordStart <;> rfl
  refine fillBuf_layout rfl ?_
  rw [mark, presence_eq]
  simp only [bytes16_shortTime, bytesOfChans_eq, bytes16_optShort, leBytes_one]
  simp only [List.append_assoc]
  rfl

theorem showTracker_pending_toList (x : Pending) : (showTracker (.pending x)).toList = recordOf
    ([0x02] ++ leBytes 1 x.pattern.val ++ leBytes 1 x.step ++ [0x00] ++ leBytes 2 x.startTime.toNat
      ++ leBytes 2 x.stepStart.toNat ++ leBytes 2 x.endTime.toNat ++ leBytes 3 x.blockers.toNat) := by
  refine fillBuf_layout rfl ?_
  simp only [bytes16_shortTime, bytesOfPats_eq, leBytes_one]
  simp only [List.append_assoc]
  rfl

theorem bankCode_eq (b : Option BankId) : bankCode b = match b with
    | none => 0x00#8 | some .a => 0x01#8 | some .b => 0x02#8 := by
  rcases b with _ | _ | _ <;> rfl

theorem sourceCode_eq (x : Source) : x.code = match x with
    | .factory => 0x00#8 | .bank .a => 0x01#8 | .bank .b => 0x02#8 := by
  rcases x with _ | _ | _ <;> rfl

theorem damagedBits_eq : ∀ a b : Bool, byteOfBool a ||| (byteOfBool b <<< 1) =
    BitVec.ofNat 8 ((if a then 1 else 0) + (if b then 2 else 0)) := by decide

theorem showStore_toList (st : Store) : (showStore st).toList = recordOf
    ([st.record.a.state.code] ++ leBytes 2 st.record.a.generation.toNat ++ [st.record.b.state.code]
      ++ leBytes 2 st.record.b.generation.toNat
      ++ [match st.current with | none => 0x00#8 | some .a => 0x01#8 | some .b => 0x02#8]
      ++ [match st.source with | .factory => 0x00#8 | .bank .a => 0x01#8 | .bank .b => 0x02#8]
      ++ leBytes 1 ((if st.damagedAtStart.a then 1 else 0) + (if st.damagedAtStart.b then 2 else 0))) := by
  refine fillBuf_layout rfl ?_
  rw [← bankCode_eq, ← sourceCode_eq, damagedBits_eq]
  simp only [bytes16_eq, leBytes_one]
  simp only [List.append_assoc]
  rfl

/-- Settles O26: the record asked for by ARG0, and the layouts of the eight tables. -/
theorem readRecordShowsTheRecordAsked : Obligations.ReadRecordShowsTheRecordAsked := by
  intro s filled hs hf
  have asked {b : Buf} (h : s.recordAsked = .accept b) : exec .readRecord s = filled b :=
    (exec_readRecord_accept hs h).trans (hf b).symm
  refine ⟨fun h0 => asked ?_, fun c h1 => ⟨fun h0 => asked ?_, fun h0 => asked ?_⟩, fun o h1 h0 => asked ?_,
    fun p h1 => ⟨fun h0 => asked ?_, fun h0 => ⟨fun x hx => asked ?_, fun hx => exec_readRecord_reject hs ?_⟩⟩,
    fun t h1 h0 => asked ?_, fun h0 => asked ?_, fun h0 => exec_readRecord_reject hs (State.recordAsked_noTable h0),
    fun h => exec_readRecord_reject hs (State.recordAsked_noIndex h), showGlobals_toList, showChannel_toList,
    showLive_toList, fun c o => (showOutput_toList c o).trans ?_, showPattern_toList, showStep_toList, ?_,
    fun w _ => showTracker_waiting_toList w, showTracker_pending_toList, showStore_toList, rfl, rfl, rfl, rfl⟩
  case refine_6 => rw [State.recordAsked_step h0, stepRecord_at h1, hx]
  case refine_7 => rw [State.recordAsked_step h0, stepRecord_at h1, List.getElem?_eq_none hx]
  case refine_10 => cases o <;> rfl
  case refine_11 => exact fillBuf_toList [] (by decide)
  all_goals
    unfold State.recordAsked
    rw [h0]
  case refine_1 | refine_9 => rfl
  all_goals exact indexed_some (by decide) h1

end Sys2Proof.Machine
end

section
/-! PROOF. O27: records read back as shown, and refused with their lowest failing field (R182, R183). -/

namespace Sys2Proof.Machine

/-! ## Fields of one and two bytes -/

theorem fillBuf_getElem (l : List Byte) (k : Nat) (h : k < 16) : (fillBuf l)[k] = l.getD k 0 := by simp [fillBuf]

theorem boolOf_byteOfBool (x : Bool) : boolOf (byteOfBool x) = some x := by cases x <;> rfl

theorem byteOfBool_beq (x : Bool) : (byteOfBool x == 1) = x := by cases x <;> rfl

theorem byteOf_toNat {n : Nat} (h : n ≤ 255) : (byteOf n).toNat = n := by
  rw [byteOf, BitVec.toNat_ofNat]
  exact Nat.mod_eq_of_lt (by omega)

theorem byteOf_self (b : Byte) : byteOf b.toNat = b := (BitVec.ofNat_toNat ..).trans (BitVec.setWidth_eq b)

theorem word16_bytes {n : Nat} (h : n < 65536) : word16 (BitVec.ofNat 8 n) (BitVec.ofNat 8 (n / 256)) = n := by
  simp only [word16, BitVec.toNat_ofNat]
  omega

theorem bytes_word16 (lo hi : Byte) : bytesOfNat16 (word16 lo hi) = [lo, hi] := by
  have hl := lo.isLt
  have hh := hi.isLt
  rw [bytesOfNat16_eq, leBytes_two]
  refine congrArg₂ (fun a b => [a, b]) (BitVec.eq_of_toNat_eq ?_) (BitVec.eq_of_toNat_eq ?_) <;>
    · simp only [word16, BitVec.toNat_ofNat]
      omega

theorem boolOf_isSome (b : Byte) : (boolOf b).isSome = true ↔ b = 0 ∨ b = 1 := by
  revert b; decide

theorem noFlag_iff (b : Byte) : boolOf b = none ↔ NoFlag b := by
  rw [← Option.not_isSome_iff_eq_none, boolOf_isSome, not_or]

theorem byteOfBool_beq_one {b : Byte} (h : (boolOf b).isSome = true) : byteOfBool (b == 1) = b := by
  rcases (boolOf_isSome b).1 h with rfl | rfl <;> rfl

/-- A field of two codes is shown as the code it was read from. -/
theorem byteOfBool_ite {α : Type} [DecidableEq α] {one zero : α} (h : zero ≠ one) {x : Byte}
    (hx : (boolOf x).isSome = true) : byteOfBool ((if x = 1 then one else zero) == one) = x := by
  rcases (boolOf_isSome x).1 hx with rfl | rfl
  · rw [if_neg (by decide), beq_eq_false_iff_ne.2 h]
    rfl
  · rw [if_pos rfl, beq_self_eq_true]
    rfl

theorem within_eq_false (lo n hi : Nat) : within lo n hi = false ↔ n < lo ∨ hi < n := by
  simp only [within, Bool.and_eq_false_iff, decide_eq_false_iff_not]
  omega

theorem lowestFails_congr {P Q : Nat → Prop} (h : ∀ m, P m ↔ Q m) (n : Nat) : LowestFails P n ↔ LowestFails Q n := by
  simp only [LowestFails, h]

/-- R182: a judged record is refused with the lowest field that fails. -/
theorem judge_bad_iff {α : Type} {l : List (Nat × Bool)} {r : α} {P : Nat → Prop}
    (hs : l.Pairwise fun a b => a.1 < b.1) (h : ∀ m, (m, false) ∈ l ↔ P m) (n : Nat) :
    judge l r = .bad n ↔ LowestFails P n :=
  (judge_bad l r n).trans ((firstFail_iff l hs n).trans (lowestFails_congr h n))

/-! ## GLOBALS -/

theorem readGlobals_showGlobals {g : Globals} (h : g.wf = true) : readGlobals (showGlobals g) = .good g := by
  simp only [Globals.wf, Bool.and_eq_true, decide_eq_true_eq] at h
  have period : (byteOf g.scanPeriod).toNat = g.scanPeriod := byteOf_toNat (by omega)
  have address : (g.address.setWidth 8).toNat = g.address.toNat := by
    rw [BitVec.toNat_setWidth]
    exact Nat.mod_eq_of_lt (by omega)
  have narrow : (g.address.setWidth 8).setWidth 7 = g.address := by
    refine BitVec.eq_of_toNat_eq ?_
    rw [BitVec.toNat_setWidth, address]
    exact Nat.mod_eq_of_lt g.address.isLt
  refine (judge_good _ _ _).2 ⟨(firstFail_eq_none_iff _).2 ?_, ?_⟩
  · simp only [showGlobals, fillBuf_getElem, List.getD_cons_zero, List.getD_cons_succ, List.forall_mem_cons, period,
      address, boolOf_byteOfBool, within]
    simp
    omega
  · simp only [showGlobals, fillBuf_getElem, List.getD_cons_zero, List.getD_cons_succ, period, byteOfBool_beq, narrow]

theorem readGlobals_bad_iff (b : Buf) (n : Nat) : readGlobals b = .bad n ↔ LowestFails (GlobalsFieldFails b) n := by
  refine judge_bad_iff (by simp) (fun m => ?_) n
  have h0 := b[0].isLt
  rcases m with _ | _ | _ | _ | m <;> simp [GlobalsFieldFails, eq_comm (a := false), within_eq_false, noFlag_iff]
  omega

/-! ## CHANNEL -/

theorem showChannel_eq (c : ChanCfg) : showChannel c = fillBuf [byteOfBool c.enable, byteOfBool c.report,
    BitVec.ofNat 8 c.touch, BitVec.ofNat 8 (c.touch / 256), BitVec.ofNat 8 c.hyst, BitVec.ofNat 8 (c.hyst / 256),
    byteOf c.pressDb, byteOf c.releaseDb, byteOf c.noiseBand, byteOf c.trackInterval, byteOf c.maxHold,
    BitVec.ofNat 8 c.driftLimit, BitVec.ofNat 8 (c.driftLimit / 256)] := by
  simp only [showChannel, bytesOfNat16_eq, leBytes_two]
  rfl

theorem readChannel_showChannel {c : ChanCfg} (h : c.wf = true) : readChannel (showChannel c) = .good c := by
  simp only [ChanCfg.wf, Bool.and_eq_true, decide_eq_true_eq] at h
  have touch := word16_bytes (n := c.touch) (by omega)
  have hyst := word16_bytes (n := c.hyst) (by omega)
  have drift := word16_bytes (n := c.driftLimit) (by omega)
  have press := byteOf_toNat (n := c.pressDb) (by omega)
  have release := byteOf_toNat (n := c.releaseDb) (by omega)
  have noise := byteOf_toNat (n := c.noiseBand) (by omega)
  have track := byteOf_toNat (n := c.trackInterval) (by omega)
  have hold := byteOf_toNat (n := c.maxHold) (by omega)
  rw [showChannel_eq]
  refine (judge_good _ _ _).2 ⟨(firstFail_eq_none_iff _).2 ?_, ?_⟩
  · simp only [fillBuf_getElem, List.getD_cons_zero, List.getD_cons_succ, List.forall_mem_cons, touch, hyst, drift,
      press, release, track, boolOf_byteOfBool, within]
    simp
    omega
  · simp only [fillBuf_getElem, List.getD_cons_zero, List.getD_cons_succ, touch, hyst, drift, press, release, noise,
      track, hold, byteOfBool_beq]

theorem readChannel_bad_iff (b : Buf) (n : Nat) : readChannel b = .bad n ↔ LowestFails (ChannelFieldFails b) n := by
  refine judge_bad_iff (by simp) (fun m => ?_) n
  have zero (x : Byte) : x.toNat = 0 ↔ x = 0#8 := BitVec.toNat_inj (y := 0#8)
  have low (x : Byte) : ¬ 255 < x.toNat := Nat.not_lt.2 (Nat.le_of_lt_succ x.isLt)
  rcases m with _ | _ | _ | _ | _ | _ | _ | _ | _ | _ | _ | m <;>
    simp [ChannelFieldFails, eq_comm (a := false), within_eq_false, noFlag_iff, word16, zero, low]

/-! ## OUTPUT -/

theorem readOutput_showOutput (c : OutCfg) (o : OutState) : readOutput (showOutput c o) = .good c := by
  refine (judge_good _ _ _).2 ⟨(firstFail_eq_none_iff _).2 ?_, ?_⟩
  · simp only [showOutput, fillBuf_getElem, List.append_assoc, List.cons_append, List.getD_cons_zero,
      List.getD_cons_succ, List.forall_mem_cons, boolOf_byteOfBool]
    simp
  · simp only [showOutput, fillBuf_getElem, List.append_assoc, List.cons_append, List.getD_cons_zero,
      List.getD_cons_succ, byteOfBool_beq]
    obtain ⟨enable, drive, polarity, mode, retrigger, initialHigh⟩ := c
    cases drive <;> cases polarity <;> cases mode <;> cases retrigger <;> rfl

theorem readOutput_bad_iff (b : Buf) (n : Nat) : readOutput b = .bad n ↔ LowestFails (OutputFieldFails b) n := by
  refine judge_bad_iff (by simp) (fun m => ?_) n
  rcases m with _ | _ | _ | _ | _ | _ | _ | m <;> simp [OutputFieldFails, eq_comm (a := false), noFlag_iff]

/-! ## Pattern headers -/

theorem priorityOf_eq_none : ∀ b : Byte, priorityOf b = none ↔ 7 < b.toNat := by decide

theorem rearmOf_eq_none : ∀ b : Byte, rearmOf b = none ↔ 2 < b.toNat := by decide

theorem actionOutOf_eq_none : ∀ b : Byte, actionOutOf b = none ↔ 5 < b.toNat ∧ ¬ b = 0xFF#8 := by decide

theorem opOf_eq_none : ∀ b : Byte, opOf b = none ↔ 4 < b.toNat := by decide

theorem readHeader_showPattern {d : PatDef} (st : PatState) (h : d.header.wf = true) :
    readHeader (showPattern d st) = .good d.header := by
  simp only [PatHeader.wf, Bool.and_eq_true, decide_eq_true_eq] at h
  have window := byteOf_toNat h.1
  have pulse := byteOf_toNat h.2
  have priority : priorityOf (byteOf d.header.priority.val) = some d.header.priority :=
    (by decide : ∀ p : Fin 8, priorityOf (byteOf p.val) = some p) _
  have rearm : rearmOf (rearmCode d.header.rearm) = some d.header.rearm := by cases d.header.rearm <;> rfl
  have out : actionOutOf (actionOutCode d.header.actionOut) = some d.header.actionOut := by
    cases d.header.actionOut with
    | none => rfl
    | some o => exact (by decide : ∀ o : OutIdx, actionOutOf (byteOf o.val) = some (some o)) o
  have op : opOf (opCode d.header.actionOp) = some d.header.actionOp := by cases d.header.actionOp <;> rfl
  refine (judge_good _ _ _).2 ⟨(firstFail_eq_none_iff _).2 ?_, ?_⟩
  · simp only [showPattern, headerBytes, fillBuf_getElem, List.append_assoc, List.cons_append, List.getD_cons_zero,
      List.getD_cons_succ, List.forall_mem_cons, boolOf_byteOfBool, priority, rearm, out, op]
    simp
  · simp only [showPattern, headerBytes, fillBuf_getElem, List.append_assoc, List.cons_append, List.getD_cons_zero,
      List.getD_cons_succ, byteOfBool_beq, priority, rearm, out, op, window, pulse, Option.getD_some]

theorem readHeader_bad_iff (b : Buf) (n : Nat) : readHeader b = .bad n ↔ LowestFails (HeaderFieldFails b) n := by
  refine judge_bad_iff (by simp) (fun m => ?_) n
  rcases m with _ | _ | _ | _ | _ | _ | _ | _ | _ | _ | _ | _ | _ | _ | m <;>
    simp [HeaderFieldFails, eq_comm (a := false), noFlag_iff, priorityOf_eq_none, rearmOf_eq_none, actionOutOf_eq_none,
      opOf_eq_none]


/-! ## Steps -/

/-- A channel set of exactly one channel. -/
theorem isSingle_iff (v : ChanSet) : ChanSet.isSingle v = true ↔ ∃ c : Chan, v.toNat = 2 ^ c.val := by
  have lt := v.isLt
  by_cases h0 : v.toNat = 0
  · have hv : v = 0 := BitVec.eq_of_toNat_eq h0
    subst hv
    decide
  · have pred : (v &&& (v - 1)).toNat = v.toNat &&& (v.toNat - 1) := by
      rw [BitVec.toNat_and, BitVec.toNat_sub_of_le (by simp [BitVec.le_def]; omega)]
      rfl
    have some_ : v ≠ 0 := fun e => h0 (by rw [e]; rfl)
    simp only [ChanSet.isSingle, Bool.and_eq_true, bne_iff_ne, ne_eq, some_, not_false_eq_true, true_and, beq_iff_eq]
    rw [← BitVec.toNat_inj, pred, show (0 : ChanSet).toNat = 0 from rfl, Nat.and_sub_one_eq_zero_iff_isPowerOfTwo h0]
    refine ⟨fun ⟨k, hk⟩ => ⟨⟨k, ?_⟩, hk⟩, fun ⟨c, hc⟩ => ⟨c.val, hc⟩⟩
    exact (Nat.pow_lt_pow_iff_right (by decide)).1 (hk ▸ lt)

theorem chansOf_eq_none (lo hi : Byte) : chansOf lo hi = none ↔ 15 < hi.toNat := by
  unfold chansOf
  split <;> simp <;> omega

theorem chansOf_some {lo hi : Byte} (h : hi.toNat < 16) :
    ∃ set, chansOf lo hi = some set ∧ set.toNat = word16 lo hi := by
  refine ⟨_, if_pos h, ?_⟩
  rw [BitVec.toNat_ofNat]
  exact Nat.mod_eq_of_lt (by simp only [word16]; omega)

theorem chansOf_bytes (c : ChanSet) : chansOf (BitVec.ofNat 8 c.toNat) (BitVec.ofNat 8 (c.toNat / 256)) = some c := by
  have high : (BitVec.ofNat 8 (c.toNat / 256)).toNat < 16 := by
    rw [BitVec.toNat_ofNat]
    omega
  rw [chansOf, if_pos high, word16_bytes (by omega), BitVec.ofNat_toNat, BitVec.setWidth_eq]

theorem kindOf_kindCode (k : Kind) : kindOf (kindCode k) = some k := by cases k <;> rfl

theorem kindOf_eq_some {b : Byte} {k : Kind} (h : kindOf b = some k) : b = kindCode k := by
  have all : ∀ b : Byte, ∀ k ∈ kindOf b, b = kindCode k := by decide
  exact all b k h

theorem showStep_eq (x : Step) : showStep x = fillBuf [kindCode x.kind, BitVec.ofNat 8 x.channels.toNat,
    BitVec.ofNat 8 (x.channels.toNat / 256), byteOf x.earliest, byteOf x.latest, byteOf x.span] := by
  simp only [showStep, bytesOfChans_eq, leBytes_two]
  rfl

theorem readStep_showStep {before : List Step} {x : Step} (h : stepsWf before.reverse [x] = true) :
    readStep (showStep x) before = .good x := by
  rw [stepsWf_single, Bool.and_eq_true] at h
  obtain ⟨fields, allowed⟩ := h
  have ranges : x.earliest ≤ 255 ∧ x.latest ≤ 255 ∧ x.span ≤ 255 := by
    simp only [Step.fieldsWf, Bool.and_eq_true, decide_eq_true_eq] at fields
    omega
  obtain ⟨he, hl, hs⟩ := ranges
  unfold readStep
  simp only [showStep_eq, fillBuf_getElem, List.getD_cons_zero, List.getD_cons_succ, kindOf_kindCode, allowed, if_true,
    chansOf_bytes, byteOf_toNat he, byteOf_toNat hl, byteOf_toNat hs]
  exact (judge_good _ _ _).2 ⟨(firstFail_eq_none_iff _).2 ((stepChecks_iff _ _ _ _ _ _ he hl hs).2 fields), rfl⟩

/-- R42: whether the KIND in a step's field 1 is one that may stand at the end of the list. -/
theorem stepField1_iff (b : Buf) (steps : List Step) :
    StepFieldFails b steps 1 ↔ ∀ k, kindOf b[0] = some k → kindAllowed k steps = false := by
  have none_ : ∀ x : Byte, kindOf x = none → ¬ (x ∈ [1#8, 2] ∨ x ∈ [3#8, 4] ∨ x = 5) := by decide
  cases hk : kindOf b[0] with
  | none =>
    refine iff_of_true (fun h => none_ _ hk ?_) fun k h => by cases h
    rcases h with h | ⟨h, -⟩ | ⟨h, -⟩
    · exact .inl h
    · exact .inr (.inl h)
    · exact .inr (.inr h)
  | some k =>
    have one : (∀ k', some k = some k' → kindAllowed k' steps = false) ↔ kindAllowed k steps = false :=
      ⟨fun h => h k rfl, fun h k' e => by cases e; exact h⟩
    rw [one]
    cases k <;> simp [StepFieldFails, kindOf_eq_some hk, kindCode, kindAllowed]
    cases steps.getLast? <;> simp

theorem byte_zero_iff (x : Byte) : x.toNat = 0 ↔ x = 0#8 := BitVec.toNat_inj (y := 0#8)

/-- R42: the conditions on CHANNELS of a CHORD, HOLD or LIFT. -/
theorem setField_fails (lo hi : Byte) : ((chansOf lo hi).isSome = true → (chansOf lo hi).getD 0#12 = 0#12) ↔
    15 < hi.toNat ∨ lo = 0#8 ∧ hi = 0#8 := by
  by_cases h : 15 < hi.toNat
  · simp [(chansOf_eq_none lo hi).2 h, h]
  · obtain ⟨set, hs, value⟩ := chansOf_some (lo := lo) (hi := hi) (by omega)
    have empty : set = 0#12 ↔ lo = 0#8 ∧ hi = 0#8 := by
      rw [← BitVec.toNat_inj, value, ← byte_zero_iff, ← byte_zero_iff]
      simp only [word16, show (0#12).toNat = 0 from rfl]
      omega
    simp [hs, h, empty]

/-- R42: the conditions on CHANNELS of a TAP. -/
theorem tapField_fails (lo hi : Byte) :
    ((chansOf lo hi).isSome = true → ChanSet.isSingle ((chansOf lo hi).getD 0#12) = false) ↔
      15 < hi.toNat ∨ ∀ c : Chan, ¬ lo.toNat + 256 * hi.toNat = 2 ^ c.val := by
  by_cases h : 15 < hi.toNat
  · simp [(chansOf_eq_none lo hi).2 h, h]
  · obtain ⟨set, hs, value⟩ := chansOf_some (lo := lo) (hi := hi) (by omega)
    rw [hs, ← Bool.not_eq_true, Option.isSome_some, Option.getD_some, isSingle_iff, value]
    simp only [h, false_or, word16, not_exists, true_imp_iff]

/-- R42: the conditions on LATEST of a step that is judged by it. -/
theorem latestField_fails (e l : Byte) : (1 ≤ l.toNat → l.toNat ≤ e.toNat) ↔ l = 0#8 ∨ l.toNat ≤ e.toNat := by
  rw [← byte_zero_iff]
  omega

theorem lowestFails_one {P : Nat → Prop} (h0 : ¬ P 0) (h1 : P 1) (n : Nat) : n = 1 ↔ LowestFails P n := by
  constructor
  · rintro rfl
    exact ⟨h1, fun m hm => by rwa [Nat.lt_one_iff.1 hm]⟩
  · rintro ⟨hn, hm⟩
    by_contra hne
    rcases n with _ | _ | n
    · exact h0 hn
    · exact hne rfl
    · exact hm 1 (by omega) h1

theorem readStep_bad_iff (b : Buf) (steps : List Step) (n : Nat) :
    readStep b steps = .bad n ↔ LowestFails (StepFieldFails b steps) n := by
  unfold readStep
  cases hk : kindOf b[0] with
  | none =>
    dsimp only
    rw [← lowestFails_one id ((stepField1_iff b steps).2 fun k h => by rw [hk] at h; cases h), Judged.bad.injEq,
        eq_comm]
  | some k =>
    dsimp only
    by_cases ha : kindAllowed k steps = true
    · rw [if_pos ha]
      refine judge_bad_iff ?_ (fun m => ?_) n
      · cases k <;> simp [stepChecks]
      · by_cases h1 : m = 1
        · subst h1
          refine iff_of_false ?_ fun h => absurd ha (Bool.not_eq_true _ ▸ (stepField1_iff b steps).1 h k hk)
          cases k <;> simp [stepChecks]
        · have code := kindOf_eq_some hk
          by_cases hs : steps = []
          all_goals
            cases k <;> rcases m with _ | _ | _ | _ | _ | _ | m <;>
              simp [stepChecks, StepFieldFails, code, kindCode, eq_comm (a := false), setField_fails, tapField_fails,
                latestField_fails, chansOf_eq_none, byte_zero_iff, hs] at h1 ⊢
    · rw [if_neg ha, ← lowestFails_one id ((stepField1_iff b steps).2 fun k' h => ?_), Judged.bad.injEq, eq_comm]
      cases hk.symm.trans h
      exact Bool.eq_false_of_not_eq_true ha

/-! ## Records shown after they were read (R183) -/

theorem Buf.toList_eq (b : Buf) : b.toList = [b[0], b[1], b[2], b[3], b[4], b[5], b[6], b[7], b[8], b[9], b[10], b[11],
    b[12], b[13], b[14], b[15]] := by
  refine List.ext_getElem (by simp) fun i h1 h2 => ?_
  simp only [List.length_cons, List.length_nil] at h2
  interval_cases i <;> simp

/-- Where a buffer is filled with the first bytes of another, the two agree there. -/
theorem fillBuf_take {b : Buf} {l : List Byte} {n : Nat} (h : l = b.toList.take n) {k : Fin 16} (hk : k.val < n) :
    (fillBuf l)[k] = b[k] := by
  refine (fillBuf_getElem l k.val k.isLt).trans ?_
  rw [h, List.getD_eq_getElem?_getD, List.getElem?_take, if_pos hk]
  simp

theorem rearmCode_of {b : Byte} (h : (rearmOf b).isSome = true) : rearmCode ((rearmOf b).getD .once) = b := by
  revert b; decide

theorem opCode_of {b : Byte} (h : (opOf b).isSome = true) : opCode ((opOf b).getD .set) = b := by
  revert b; decide

theorem actionOutCode_of {b : Byte} (h : (actionOutOf b).isSome = true) :
    actionOutCode ((actionOutOf b).getD none) = b := by
  revert b; decide

theorem priorityOf_of {b : Byte} (h : (priorityOf b).isSome = true) : byteOf ((priorityOf b).getD 0).val = b := by
  revert b; decide

theorem kindCode_of {b : Byte} {k : Kind} (h : kindOf b = some k) : kindCode k = b := (kindOf_eq_some h).symm

theorem bytesOfChans_of {lo hi : Byte} (h : (chansOf lo hi).isSome = true) :
    bytesOfChans ((chansOf lo hi).getD 0) = [lo, hi] := by
  obtain ⟨set, hs, value⟩ := chansOf_some (lo := lo) (hi := hi) (by
    by_contra hc
    rw [(chansOf_eq_none lo hi).2 (by omega)] at h
    cases h)
  rw [hs, Option.getD_some, bytesOfChans_eq, value, ← bytesOfNat16_eq, bytes_word16]

theorem showGlobals_readGlobals {b : Buf} {g : Globals} (h : readGlobals b = .good g) {k : Fin 16} (hk : k.val < 3) :
    (showGlobals g)[k] = b[k] := by
  obtain ⟨hc, rfl⟩ := (judge_good _ _ _).1 h
  simp only [firstFail_eq_none_iff, List.forall_mem_cons, within, Bool.and_eq_true, decide_eq_true_eq] at hc
  obtain ⟨-, start, ⟨-, address⟩, -⟩ := hc
  have wide : (b[2].setWidth 7).setWidth 8 = b[2] := by
    refine BitVec.eq_of_toNat_eq ?_
    simp only [BitVec.toNat_setWidth]
    omega
  refine fillBuf_take (n := 3) ?_ hk
  rw [Buf.toList_eq, byteOf_self, byteOfBool_beq_one start, wide]
  rfl

theorem showChannel_readChannel {b : Buf} {c : ChanCfg} (h : readChannel b = .good c) {k : Fin 16} (hk : k.val < 13) :
    (showChannel c)[k] = b[k] := by
  obtain ⟨hc, rfl⟩ := (judge_good _ _ _).1 h
  simp only [firstFail_eq_none_iff, List.forall_mem_cons] at hc
  obtain ⟨enable, report, -⟩ := hc
  refine fillBuf_take (n := 13) ?_ hk
  simp only [Buf.toList_eq, bytes_word16, byteOf_self, byteOfBool_beq_one enable, byteOfBool_beq_one report]
  rfl

theorem fillBuf_append {l m : List Byte} {k : Fin 16} (hk : k.val < l.length) :
    (fillBuf (l ++ m))[k] = (fillBuf l)[k] := by
  refine (fillBuf_getElem _ k.val k.isLt).trans (Eq.trans ?_ (fillBuf_getElem l k.val k.isLt).symm)
  rw [List.getD_append _ _ _ _ hk]

/-- The six bytes of an OUTPUT record that are its configuration (section 10.4.4). -/
theorem showOutput_first (c : OutCfg) (o : OutState) {k : Fin 16} (hk : k.val < 6) :
    (showOutput c o)[k] = (fillBuf [byteOfBool c.enable, byteOfBool (c.drive == .openDrain),
      byteOfBool (c.polarity == .activeLow), byteOfBool (c.mode == .host), byteOfBool (c.retrigger == .keep),
      byteOfBool c.initialHigh])[k] := by
  rw [showOutput, List.append_assoc]
  exact fillBuf_append (l := [_, _, _, _, _, _])
      (m := [0, 0, o.code] ++ (bytes16 o.dueShort ++ bytesOfChans o.followSet)) hk

theorem showOutput_readOutput {b : Buf} {c : OutCfg} (h : readOutput b = .good c) (o : OutState) {k : Fin 16}
    (hk : k.val < 6) : (showOutput c o)[k] = b[k] := by
  obtain ⟨hc, rfl⟩ := (judge_good _ _ _).1 h
  simp only [firstFail_eq_none_iff, List.forall_mem_cons] at hc
  obtain ⟨enable, drive, polarity, mode, retrigger, level, -⟩ := hc
  rw [showOutput_first _ _ hk]
  refine fillBuf_take (n := 6) ?_ hk
  simp only [Buf.toList_eq, byteOfBool_beq_one enable, byteOfBool_beq_one level,
    byteOfBool_ite (nofun : Drive.pushPull ≠ .openDrain) drive,
    byteOfBool_ite (nofun : Polarity.activeHigh ≠ .activeLow) polarity,
    byteOfBool_ite (nofun : OutMode.pattern ≠ .host) mode,
    byteOfBool_ite (nofun : Retrigger.extend ≠ .keep) retrigger]
  rfl

theorem showPattern_readHeader {b : Buf} {h : PatHeader} (hr : readHeader b = .good h) {d : PatDef} (hd : d.header = h)
    (st : PatState) {k : Fin 16} (hk : k.val < 13) : (showPattern d st)[k] = b[k] := by
  obtain ⟨hc, rfl⟩ := (judge_good _ _ _).1 hr
  simp only [firstFail_eq_none_iff, List.forall_mem_cons] at hc
  obtain ⟨priority, -, strict, claim, defer, done, aborts, rearm, start, -, out, op, -⟩ := hc
  have first : (showPattern d st)[k] = (fillBuf (headerBytes d.header))[k] := by
    have length : (headerBytes d.header).length = 13 := rfl
    rw [showPattern, List.append_assoc]
    exact fillBuf_append (length.symm ▸ hk)
  rw [first, hd]
  refine fillBuf_take (n := 13) ?_ hk
  simp only [headerBytes, Buf.toList_eq, byteOf_self, priorityOf_of priority, byteOfBool_beq_one strict,
    byteOfBool_beq_one claim, byteOfBool_beq_one defer, byteOfBool_beq_one done, byteOfBool_beq_one aborts,
    rearmCode_of rearm, byteOfBool_beq_one start, actionOutCode_of out, opCode_of op]
  rfl

theorem showStep_readStep {b : Buf} {steps : List Step} {x : Step} (h : readStep b steps = .good x) {k : Fin 16}
    (hk : k.val < 6) : (showStep x)[k] = b[k] := by
  unfold readStep at h
  cases kind : kindOf b[0] with
  | none => rw [kind] at h; cases h
  | some kd =>
    rw [kind] at h
    dsimp only at h
    split at h
    · obtain ⟨hc, rfl⟩ := (judge_good _ _ _).1 h
      rw [firstFail_eq_none_iff] at hc
      have chans : (chansOf b[1] b[2]).isSome = true := by
        cases kd <;> simp [stepChecks] at hc <;> tauto
      refine fillBuf_take (n := 6) ?_ hk
      simp only [Buf.toList_eq, byteOf_self, kindCode_of kind, bytesOfChans_of chans]
      rfl
    · cases h

/-- Settles O27: what is shown is read back as it was shown, what is read is in range and is shown as it was read, and a
refusal names the lowest of the fields that fail; a statement for each kind of record. -/
theorem recordsReadBackAsShown : Obligations.RecordsReadBackAsShown := by
  unfold Obligations.RecordsReadBackAsShown
  refine ⟨fun g => readGlobals_showGlobals, fun c => readChannel_showChannel, readOutput_showOutput,
    fun d st => readHeader_showPattern st, fun before x => readStep_showStep, fun b g => readGlobals_wf,
    fun b c => readChannel_wf, fun b h => readHeader_wf, fun b before x => readStep_wf, readGlobals_bad_iff,
    readChannel_bad_iff, readOutput_bad_iff, readHeader_bad_iff, readStep_bad_iff, fun b k => ?_⟩
  exact ⟨fun g h hk => showGlobals_readGlobals h hk, fun c h hk => showChannel_readChannel h hk,
    fun c o h hk => showOutput_readOutput h o hk, fun h d st hr hd hk => showPattern_readHeader hr hd st hk,
    fun steps x h hk => showStep_readStep h hk⟩

end Sys2Proof.Machine
end

section
/-! PROOF. One tracker alone at an event (04_trackers_and_step_matching.md, section 4.9): what is left of the five
stages of R87 where one tracker is in use, no due time comes before the event, and no pattern can start. -/

namespace Sys2Proof.Machine

/-! ## Patterns that the event itself made READY do not start (R66, condition 3) -/

/-- Every READY pattern is one whose tracker ended in the event. -/
def Recog.ReadyEnded (w : Recog) : Prop := ∀ p : PatIdx, w.pstate[p] = .ready → hasPat w.ended p = true

theorem Recog.ReadyEnded.ends {v w : Recog} (h : w.ReadyEnded) {p : PatIdx} {st : PatState}
    (hs : v.pstate = w.pstate.set p st) (he : v.ended = w.ended ||| patBit p) : v.ReadyEnded := by
  intro q hq
  rw [he, hasPat_or, hasPat_patBit]
  by_cases hpq : p = q
  · simp [hpq]
  · rw [hs, getElem_set_fin, if_neg hpq] at hq
    rw [h q hq, Bool.true_or]

theorem readyEnded_closed (e : Env) : EndClosed e Recog.ReadyEnded where
  ends t reason time st w _ h := by
    cases hp : w.trackers[t].pattern with
    | none => rwa [endSlot_free e t reason time st w hp]
    | some p =>
      rw [endSlot_eq hp]
      exact h.ends rfl rfl
  completes t p te deferred time w _ h := by
    rw [completeSlot_eq]
    exact h.ends rfl rfl
  unblocks _ _ h := h
  claims _ _ h := h

theorem stage5_readyEnded {e : Env} {ev : Event} {w : Recog} (h : w.ReadyEnded) : stage5 e ev w = w := by
  unfold stage5
  split
  · refine foldl_same _ _ _ fun p => if_neg fun ho => ?_
    simp only [offered, Bool.and_eq_true, beq_iff_eq, Bool.not_eq_true'] at ho
    obtain ⟨⟨⟨hr, -⟩, hn⟩, -⟩ := ho
    rw [h p hr] at hn
    cases hn
  · rfl

/-! ## Stages 1, 3 and 4 -/

/-- R84: no due time of the only tracker in use comes before the event. -/
theorem nextDue_alone {e : Env} {t : Time} {w : Recog} {i : SlotIdx} {x : Waiting} (hx : w.trackers[i] = .waiting x)
    (free : ∀ u : SlotIdx, u ≠ i → w.trackers[u] = .free) (due : x.NotDueBefore t) : nextDue e t w = none := by
  refine nextDue_none.2 fun u kind d ⟨y, hy, hv, hd⟩ => ?_
  obtain ⟨within, at_⟩ := (dueAt_iff ..).1 hd
  by_cases hu : u = i
  · subst hu
    cases hx.symm.trans hy
    cases kind with
    | none => exact at_ rfl (due.2 d hv within)
    | some k =>
      obtain ⟨h1, h2, h3⟩ := due.1 (k, d) hv within
      refine at_ (Bool.eq_false_of_not_eq_true fun hs => ?_) h3
      rcases (satisfyingKind_iff _).1 hs with h | h
      · exact h1 (Option.some.inj h)
      · exact h2 (Option.some.inj h)
  · rw [free u hu] at hy
    cases hy

/-- R88: stage 3 where one slot is in use. -/
theorem stage3_alone {e : Env} {ev : Event} {w : Recog} {i : SlotIdx}
    (free : ∀ u : SlotIdx, u ≠ i → w.trackers[u] = .free)
    (after : ∀ u : SlotIdx, u ≠ i → (offerSlot e ev (w, []) i).1.trackers[u] = .free) :
    stage3 e ev w = offerSlot e ev (w, []) i := by
  have pass (acc : Recog × List (SlotIdx × Time)) (l : List SlotIdx) (hl : ∀ u ∈ l, u ≠ i)
      (h : ∀ u : SlotIdx, u ≠ i → acc.1.trackers[u] = .free) : l.foldl (offerSlot e ev) acc = acc := by
    induction l with
    | nil => rfl
    | cons u l ih =>
      have here : offerSlot e ev acc u = acc := by rw [offerSlot, h u (hl u List.mem_cons_self)]
      rw [List.foldl_cons, here, ih fun u hu => hl u (List.mem_cons_of_mem _ hu)]
  obtain ⟨l, m, hlm⟩ := List.append_of_mem (show i ∈ allSlots from List.mem_finRange i)
  have nodup : (l ++ i :: m).Nodup := hlm ▸ List.nodup_finRange 6
  obtain ⟨-, hm, hd⟩ := List.nodup_append'.1 nodup
  rw [stage3, hlm, List.foldl_append, pass (w, []) l (fun u hu e => hd hu (e ▸ List.mem_cons_self)) free,
      List.foldl_cons]
  exact pass _ m (fun u hu e => (List.nodup_cons.1 hm).1 (e ▸ hu)) after

/-- R89: stage 4 with one candidate. -/
theorem stage4_one {e : Env} {w : Recog} {i : SlotIdx} {te : Time} {y : Waiting} (hy : w.trackers[i] = .waiting y) :
    stage4 e [(i, te)] w = resolve e i te w := by
  refine stage4_order (order := [(i, te)]) (List.nodup_singleton _) ?_ (List.pairwise_singleton _ _)
  rw [List.filter_cons_of_pos (by dsimp only; rw [hy]; rfl)]
  rfl

/-! ## The event -/

/-- R80, R88, R94: what becomes of the only tracker in use. -/
def aloneAfter (e : Env) (i : SlotIdx) (p : PatIdx) (r : Progress) (w : Recog) : Recog :=
  match r with
  | .stay y => { w with trackers := w.trackers.set i (.waiting y) }
  | .candidate y te => complete e 6 i te false te { w with trackers := w.trackers.set i (.waiting y) }
  | .abort y reason time => { w with
      offers := w.offers ++ (if e.defs[p].header.reportAbort = true then
        some (.aborted p e.defs[p].header.tag y.step reason (time.setWidth 16)) else none).toList
      trackers := w.trackers.set i .free
      pstate := w.pstate.set p .ready, ended := w.ended ||| patBit p }

/-- R87 to R90 with one tracker alone. -/
theorem matchEvent_alone {e : Env} {ev : Event} {w v : Recog} {i : SlotIdx} {x : Waiting}
    (hx : w.trackers[i] = .waiting x)
    (free : ∀ u : SlotIdx, u ≠ i → w.trackers[u] = .free) (due : x.NotDueBefore ev.time)
    (notReady : ev.press = true → ∀ p : PatIdx, w.pstate[p] ≠ .ready)
    (hv : v = stage2 e ev { w with ended := 0, claimed := 0 }) :
    matchEvent e ev w = aloneAfter e i x.pattern (offerEvent e.defs[x.pattern] v.held ev x) v := by
  have one : stage1 e ev { w with ended := 0, claimed := 0 } = { w with ended := 0, claimed := 0 } :=
    takeDues_none _ _ _ _ (nextDue_alone (w := { w with ended := 0, claimed := 0 }) hx free due)
  have trackers : v.trackers = w.trackers := by rw [hv, stage2_trackers]
  have hx' : v.trackers[i] = .waiting x := by rw [trackers, hx]
  have free' (u : SlotIdx) (hu : u ≠ i) : v.trackers[u] = .free := by rw [trackers, free u hu]
  have ready (hp : ev.press = true) : v.ReadyEnded := by
    intro p h
    have same : v.pstate = w.pstate := by rw [hv]; simp [stage2, hp]
    exact absurd (same ▸ h) (notReady hp p)
  have pattern : (offerEvent e.defs[x.pattern] v.held ev x).record.pattern = x.pattern :=
    (offerEvent_moves e.defs[x.pattern] v.held ev x).pattern
  have moved (y : Waiting) : (v.trackers.set i (.waiting y))[i] = .waiting y := by rw [getElem_set_fin, if_pos rfl]
  have last {u : Recog} (h : v.ReadyEnded → u.ReadyEnded) : stage5 e ev u = u := by
    cases hp : ev.press with
    | true => exact stage5_readyEnded (h (ready hp))
    | false =>
      unfold stage5
      rw [hp]
      rfl
  have slot : offerSlot e ev (v, []) i = match offerEvent e.defs[x.pattern] v.held ev x with
      | .stay y => (v.setTracker i (.waiting y), [])
      | .candidate y te => (v.setTracker i (.waiting y), [(i, te)])
      | .abort y reason time => (aloneAfter e i x.pattern (.abort y reason time) v, []) := by
    unfold offerSlot
    rw [hx']
    dsimp only [Env.pat]
    cases hr : offerEvent e.defs[x.pattern] v.held ev x with
    | stay y => rfl
    | candidate y te => rfl
    | abort y reason time =>
      rw [hr] at pattern
      have bound : (v.setTracker i (.waiting y)).trackers[i].pattern = some x.pattern := by
        rw [Recog.setTracker_trackers, moved, ← pattern]
        rfl
      refine Prod.ext ?_ rfl
      dsimp only
      rw [endTracker_alone bound (fun u z hu hz => ?_), abortRecord_bound bound]
      · simp only [Recog.setTracker_trackers, moved, Vector.set_set]
        rfl
      · rw [Recog.setTracker_trackers, set_free_others free' u hu] at hz
        cases hz
  have three : stage3 e ev v = offerSlot e ev (v, []) i := by
    refine stage3_alone free' fun u hu => ?_
    rw [slot]
    cases offerEvent e.defs[x.pattern] v.held ev x <;> exact set_free_others free' u hu
  unfold matchEvent
  dsimp only
  rw [one, ← hv, three, slot]
  cases hr : offerEvent e.defs[x.pattern] v.held ev x with
  | stay y =>
    dsimp only
    rw [stage4_nil]
    exact last (u := v.setTracker i (.waiting y)) id
  | candidate y te =>
    dsimp only
    rw [stage4_one (y := y) (moved y), resolve_alone (x := y) (moved y) (set_free_others free')]
    exact last fun h => (readyEnded_closed e).complete 6 i te false te (v.setTracker i (.waiting y)) h
  | abort y reason time =>
    dsimp only
    rw [stage4_nil]
    exact last fun h => h.ends rfl rfl

end Sys2Proof.Machine
end

section
/-! PROOF. O18, O19, O20, O21, O22: what a result does (02_channel_conditioning.md, sections 2.2 to 2.4). First the live
record and what is handed on, case by case; then the handing on. -/

namespace Sys2Proof.Machine

/-! ## A result at its channel (R15 to R25) -/

section

variable {cfg : ChanCfg} {c : Chan} {raw : Fin 4096} {t now : Time} {l l' : ChanLive}

theorem chanResult_unmeasured (h : l.state.isMeasured = false) : chanResult cfg c raw.val t now l = (l, []) := by
  unfold chanResult
  rw [if_neg (by rw [h]; nofun)]

theorem chanResult_measured (h : l.state.isMeasured = true) (hl : l' = l.counted raw) :
    chanResult cfg c raw.val t now l =
      if 3 ≤ l'.satCount then faultEntry c (if l'.satHigh then .isOpen else .short) now l'
      else if l'.state = .settling then (settleStep l', [])
      else if isStuck cfg t l' then declareStuck c now l'
      else thresholdStep cfg c t now l' := by
  unfold chanResult
  rw [if_pos h, hl]
  dsimp only
  rw [countSaturation_takeRaw]

theorem chanResult_saturated (h : l.state.isMeasured = true) (hl : l' = l.counted raw) (hs : 3 ≤ l'.satCount) :
    chanResult cfg c raw.val t now l = faultEntry c (if l'.satHigh then .isOpen else .short) now l' := by
  rw [chanResult_measured h hl, if_pos hs]

theorem chanResult_settling (hl : l' = l.counted raw) (hs : l'.satCount < 3) (h : l.state = .settling) :
    chanResult cfg c raw.val t now l = (settleStep l', []) := by
  rw [chanResult_measured (by rw [h]; rfl) hl, if_neg (by omega), if_pos (by rw [hl]; exact h)]

theorem chanResult_stuck (hl : l' = l.counted raw) (hs : l'.satCount < 3) (h : l.state.isDown = true)
    (hm : cfg.maxHold ≠ 0) (ht : cfg.maxHold * 100 ≤ (t - l.pressTime).toNat) :
    chanResult cfg c raw.val t now l = declareStuck c now l' := by
  have state : l'.state = l.state := by rw [hl]; rfl
  have press : l'.pressTime = l.pressTime := by rw [hl]; rfl
  rw [chanResult_measured (ChanState.measured_of_down h) hl, if_neg (by omega),
      if_neg (by rw [state]; rintro e; rw [e] at h; cases h),
    if_pos]
  simp only [isStuck, state, press, elapsed, h, Bool.true_and, Bool.and_eq_true, bne_iff_ne, decide_eq_true_eq]
  exact ⟨hm, ht⟩

theorem chanResult_threshold (hl : l' = l.counted raw) (hs : l'.satCount < 3)
    (h : l.state = .idle ∨ l.state = .arming
      ∨ l.state.isDown = true ∧ (cfg.maxHold = 0 ∨ (t - l.pressTime).toNat < cfg.maxHold * 100)) :
    chanResult cfg c raw.val t now l = thresholdStep cfg c t now l' := by
  have state : l'.state = l.state := by rw [hl]; rfl
  have press : l'.pressTime = l.pressTime := by rw [hl]; rfl
  have measured : l.state.isMeasured = true ∧ l.state ≠ .settling := by
    rcases h with h | h | ⟨h, -⟩
    · rw [h]; decide
    · rw [h]; decide
    · exact ⟨ChanState.measured_of_down h, by rintro e; rw [e] at h; cases h⟩
  rw [chanResult_measured measured.1 hl, if_neg (by omega), if_neg (by rw [state]; exact measured.2), if_neg]
  simp only [isStuck, state, press, elapsed, Bool.and_eq_true, bne_iff_ne, decide_eq_true_eq, not_and]
  rintro ⟨down, hm⟩
  rcases h with h | h | ⟨-, h⟩
  · exact absurd (h ▸ down) nofun
  · exact absurd (h ▸ down) nofun
  · rcases h with h | h
    · exact absurd h hm
    · omega

end

/-! ## The baseline step (R19, R20) -/

theorem baselineStep_counted (l : ChanLive) (cfg : ChanCfg) (raw : Fin 4096) :
    baselineStep cfg (l.counted raw) = { l.counted raw with
      baseline := l.trackedBaseline cfg raw.val
      track :=
        if -(cfg.noiseBand : Int) ≤ (raw.val : Int) - l.baseline
          ∧ (raw.val : Int) - l.baseline ≤ cfg.noiseBand ∧ l.track + 1 < cfg.trackInterval then l.track + 1
        else 0 } := by
  have signal : (l.counted raw).signal = (raw.val : Int) - l.baseline := rfl
  have track : (l.counted raw).track = l.track := rfl
  unfold baselineStep ChanLive.trackedBaseline
  rw [signal, track]
  by_cases h1 : (raw.val : Int) - l.baseline < -(cfg.noiseBand : Int)
  · rw [if_pos h1, if_pos h1, if_neg (by omega)]
    rfl
  · by_cases h2 : (cfg.noiseBand : Int) < (raw.val : Int) - l.baseline
    · rw [if_neg h1, if_pos h2, if_neg h1, if_pos (.inl h2), if_neg (by omega)]
      rfl
    · by_cases h3 : cfg.trackInterval ≤ l.track + 1
      · have moves : ¬ ((cfg.noiseBand : Int) < (raw.val : Int) - l.baseline ∨ l.track + 1 < cfg.trackInterval) := by
          omega
        have full : ¬ (-(cfg.noiseBand : Int) ≤ (raw.val : Int) - l.baseline
          ∧ (raw.val : Int) - l.baseline ≤ cfg.noiseBand ∧ l.track + 1 < cfg.trackInterval) := by omega
        rw [if_neg h1, if_neg h2, if_pos h3, if_neg h1, if_neg moves, if_neg full]
        rfl
      · rw [if_neg h1, if_neg h2, if_neg h3, if_neg h1, if_pos (.inr (by omega)), if_pos (by omega)]
        rfl

theorem driftOf_eq (l : ChanLive) : driftOf l = ((l.baseline : Int) - l.reference).natAbs := by
  unfold driftOf
  omega

theorem thresholdStep_idle {cfg : ChanCfg} {c : Chan} {t now : Time} {l : ChanLive} (h : l.state = .idle)
    (below : l.signal < cfg.touch) : thresholdStep cfg c t now l = trackStep cfg c now l := by
  unfold thresholdStep
  rw [h]
  dsimp only
  rw [if_neg (Int.not_le.2 below)]

theorem trackStep_quiet {cfg : ChanCfg} {c : Chan} {now : Time} {l l2 : ChanLive} (h2 : baselineStep cfg l = l2)
    (h : cfg.driftLimit = 0 ∨ l2.baseline = l.baseline ∨ ((l2.baseline : Int) - l2.reference).natAbs ≤ cfg.driftLimit) :
    trackStep cfg c now l = (l2, []) := by
  unfold trackStep
  rw [h2]
  dsimp only
  rw [if_neg]
  rintro ⟨hb, hd, hl⟩
  rw [driftOf_eq] at hl
  rcases h with h | h | h
  · exact hd h
  · exact hb h
  · omega

theorem trackStep_drifts {cfg : ChanCfg} {c : Chan} {now : Time} {l l2 : ChanLive} (h2 : baselineStep cfg l = l2)
    (hb : l2.baseline ≠ l.baseline) (hd : cfg.driftLimit ≠ 0)
    (hl : cfg.driftLimit < ((l2.baseline : Int) - l2.reference).natAbs) :
    trackStep cfg c now l = faultEntry c .drift now l2 := by
  unfold trackStep
  rw [h2]
  dsimp only
  rw [if_pos ⟨hb, hd, by rwa [driftOf_eq]⟩]

/-! ## The delivery (R4, R27) -/

theorem Scan.delivered_eq (list : List Chan) (c : Chan) (rest : List Chan) :
    Scan.delivered { list := list, left := c :: rest } =
      if rest = [] then none else some { list := list, left := rest } := by
  cases rest <;> rfl

section

variable {s : State} {t : Time} {list : List Chan} {c : Chan} {rest : List Chan} {raw : Fin 4096}

/-- R4, R15: a result is delivered, and what it makes of its channel is handed on. -/
theorem exec_scanResult {l : ChanLive} {ns : List Notice} (h : s.Delivers t list c rest)
    (hr : chanResult s.chanCfg[c] c raw.val t s.time s.chanLive[c] = (l, ns)) :
    exec (.scanResult raw) s = .next ((s.delivered list c rest l).work (handAll s.chanCfg[c].report c ns)) := by
  have run : exec (.scanResult raw) s = .next (
      { s with scanner := { s.scanner with scan := Scan.delivered { list := list, left := c :: rest } } }.chanStep
        Option.none c (chanResult s.chanCfg[c] c raw.val t s.time s.chanLive[c])) := by
    refine congrArg Host.Outcome.next ?_
    rw [h.1, h.2]
  rw [run, hr, Scan.delivered_eq]
  rfl

theorem exec_scanResult_quiet {l : ChanLive} (h : s.Delivers t list c rest)
    (hr : chanResult s.chanCfg[c] c raw.val t s.time s.chanLive[c] = (l, [])) :
    exec (.scanResult raw) s = .next (s.delivered list c rest l) := exec_scanResult h hr

end

/-- Settles O18: the three branches of R15 that hand nothing on. -/
theorem resultsThatProduceNothing : Obligations.ResultsThatProduceNothing := by
  intro s t list c rest raw h l l' cfg hl hc hl'
  subst hl hc
  have quiet {r : ChanLive} (hr : chanResult s.chanCfg[c] c raw.val t s.time s.chanLive[c] = (r, [])) :=
    exec_scanResult_quiet h hr
  refine ⟨fun hs => ?_, fun sat => ⟨fun hs hn => ?_, fun hs hn => ?_, fun b hb hs below drift => ?_⟩⟩
  · refine quiet (chanResult_unmeasured ?_)
    rcases hs with hs | hs | hs <;> rw [hs] <;> rfl
  · refine quiet ((chanResult_settling hl' sat hs).trans ?_)
    rw [hl', settleStep, if_pos (by exact Nat.succ_lt_succ hn)]
    rfl
  · refine quiet ((chanResult_settling hl' sat hs).trans ?_)
    rw [hl', settleStep, if_neg (by rw [show (s.chanLive[c].counted raw).settleCount = 7 from hn]; decide)]
    rfl
  · refine quiet ((chanResult_threshold hl' sat (.inl hs)).trans ?_)
    subst hl' hb
    rw [thresholdStep_idle (l := s.chanLive[c].counted raw) hs below]
    refine trackStep_quiet (baselineStep_counted ..) ?_
    exact drift

end Sys2Proof.Machine
end

section
/-! PROOF. O19, O20: presses and releases confirmed (02_channel_conditioning.md, section 2.2, and
04_trackers_and_step_matching.md, section 4.9). First what an event handed on leaves where one tracker is in use. -/

namespace Sys2Proof.Machine

/-! ## An event handed on, with one tracker alone (R27, R88) -/

/-- R130: work that offers a record first, and some after it, and leaves the flags. -/
theorem State.putRecog_offered (s : State) (report : Bool) (r : Record) {w : Recog} {l : List Record}
    (hf : w.flags = s.flags) (ho : w.offers = (if report = true then s.recog.offer r else s.recog).offers ++ l) :
    (s.putRecog w).takeOffers w.offers = State.takeOffers l { s.queued report r with
      patState := w.pstate, trackers := w.trackers, held := w.held, outState := w.outs } := by
  obtain ⟨pstate, trackers, held, outs, flags, offers, ended, claimed⟩ := w
  dsimp only at hf ho
  subst hf ho
  rw [State.takeOffers_append, State.queued_eq_push]
  cases report <;> rfl

theorem State.work_offered {s : State} {f : Env → Recog → Recog} (report : Bool) (r : Record) {w : Recog}
    {l : List Record}
    (h : f s.env s.recog = w) (hf : w.flags = s.flags)
    (ho : w.offers = (if report = true then s.recog.offer r else s.recog).offers ++ l) :
    s.work f = State.takeOffers l { s.queued report r with
      patState := w.pstate, trackers := w.trackers, held := w.held, outState := w.outs } :=
  (State.work_eq h).trans (s.putRecog_offered report r hf ho)

/-- The record of an event is offered before the matcher handles it. -/
theorem Recog.offered_eq (s : State) (report : Bool) (r : Record) :
    (if report = true then s.recog.offer r else s.recog) =
      { s.recog with offers := (if report = true then s.recog.offer r else s.recog).offers } := by
  cases report <;> rfl

section

variable {s : State} {ev : Event} {report : Bool} {r : Record} {i : SlotIdx} {x : Waiting} {held : ChanSet}
  (hx : s.trackers[i] = .waiting x) (free : ∀ u : SlotIdx, u ≠ i → s.trackers[u] = .free) (due : x.NotDueBefore ev.time)
include hx free due

/-- R87, R88: a PRESS at the matcher. -/
theorem matchEvent_pressAlone (hp : ev.press = true) (notReady : ∀ p : PatIdx, s.patState[p] ≠ .ready)
    (hh : held = s.held ||| 1#12 <<< ev.chan.val) :
    matchEvent s.env ev (if report = true then s.recog.offer r else s.recog) =
      aloneAfter s.env i x.pattern (offerEvent s.patDef[x.pattern] held ev x)
        { (if report = true then s.recog.offer r else s.recog) with held := held } := by
  rw [Recog.offered_eq]
  refine matchEvent_alone (v := { s.recog with offers := _, held := held }) hx free due (fun _ => notReady) ?_
  subst hh
  unfold stage2
  rw [if_pos hp]
  rfl

theorem State.work_pressAlone (hp : ev.press = true) (notReady : ∀ p : PatIdx, s.patState[p] ≠ .ready)
    (hh : held = s.held ||| 1#12 <<< ev.chan.val) :
    (∀ y, offerEvent s.patDef[x.pattern] held ev x = .stay y →
      (s.work fun e w => matchEvent e ev (if report = true then w.offer r else w)) =
        { s.queued report r with held := held, trackers := s.trackers.set i (.waiting y) })
    ∧ (∀ y reason time, offerEvent s.patDef[x.pattern] held ev x = .abort y reason time →
      (s.work fun e w => matchEvent e ev (if report = true then w.offer r else w)) =
        { s.queued report r with
          held := held, trackers := s.trackers.set i .free, patState := s.patState.set x.pattern .ready }.queued
          s.patDef[x.pattern].header.reportAbort
          (.aborted x.pattern s.patDef[x.pattern].header.tag y.step reason (time.setWidth 16)))
    ∧ ∀ y te, offerEvent s.patDef[x.pattern] held ev x = .candidate y te →
      (s.work fun e w => matchEvent e ev (if report = true then w.offer r else w)) =
        s.work fun e w => complete e 6 i te false te
          { (if report = true then w.offer r else w) with
            held := held, trackers := w.trackers.set i (.waiting y) } := by
  have event := matchEvent_pressAlone (report := report) (r := r) hx free due hp notReady hh
  refine ⟨fun y hy => ?_, fun y reason time hy => ?_, fun y te hy => ?_⟩ <;> rw [hy] at event
  · refine (State.work_offered report r (l := []) event ?_ ?_).trans ?_
    · cases report <;> rfl
    · exact (List.append_nil _).symm
    · rw [State.queued_eq_push]
      cases report <;> rfl
  · refine (State.work_offered report r event ?_ rfl).trans ?_
    · cases report <;> rfl
    · rw [State.takeOffers_if, State.queued_eq_push s]
      cases report <;> rfl
  · refine State.work_congr (event.trans ?_)
    rw [aloneAfter, Recog.offered_eq]

/-- R87, R88, R103: a RELEASE at the matcher. -/
theorem matchEvent_releaseAlone (hp : ev.press = false) (hh : held = s.held &&& ~~~(1#12 <<< ev.chan.val)) :
    matchEvent s.env ev (if report = true then s.recog.offer r else s.recog) =
      aloneAfter s.env i x.pattern (offerEvent s.patDef[x.pattern] held ev x)
        { (if report = true then s.recog.offer r else s.recog) with
          held := held, pstate := (s.released ev.chan).patState } := by
  have two := congrArg State.patState (State.putRecog_release s hp (if report = true then s.recog.offer r else s.recog))
  have same : s.putRecog (if report = true then s.recog.offer r else s.recog) = s := by cases report <;> rfl
  rw [same] at two
  refine matchEvent_alone (v := { (if report = true then s.recog.offer r else s.recog) with
    held := held, pstate := (s.released ev.chan).patState }) ?_ ?_ due (fun h => absurd (h.symm.trans hp) nofun) ?_
  · cases report <;> exact hx
  · cases report <;> exact free
  · rw [← two]
    subst hh
    unfold stage2
    rw [hp]
    cases report <;> rfl

omit hx free due in
/-- The follows that a RELEASE ends, whatever the event made of the trackers. -/
theorem endFollows_released (hp : ev.press = false) {w : Recog} (h1 : w.held = s.held &&& ~~~(1#12 <<< ev.chan.val))
    (h2 : w.outs = s.outState) : w.endFollows = { w with outs := (s.released ev.chan).outState } := by
  have two := congrArg State.outState (State.putRecog_release s hp s.recog)
  have same : s.putRecog s.recog = s := rfl
  rw [same] at two
  rw [← two]
  obtain ⟨pstate, trackers, held, outs, flags, offers, ended, claimed⟩ := w
  dsimp only at h1 h2
  subst h1 h2
  unfold stage2
  rw [hp]
  rfl

theorem State.work_releaseAlone (hp : ev.press = false) (hh : held = s.held &&& ~~~(1#12 <<< ev.chan.val)) {v : State}
    (hv : v = (s.queued report r).released ev.chan) :
    (∀ y, offerEvent s.patDef[x.pattern] held ev x = .stay y →
      (s.work fun e w => (matchEvent e ev (if report = true then w.offer r else w)).endFollows) =
        { v with trackers := s.trackers.set i (.waiting y) })
    ∧ (∀ y reason time, offerEvent s.patDef[x.pattern] held ev x = .abort y reason time →
      (s.work fun e w => (matchEvent e ev (if report = true then w.offer r else w)).endFollows) =
        { v with trackers := s.trackers.set i .free, patState := v.patState.set x.pattern .ready }.queued
          s.patDef[x.pattern].header.reportAbort
          (.aborted x.pattern s.patDef[x.pattern].header.tag y.step reason (time.setWidth 16)))
    ∧ ∀ y te, offerEvent s.patDef[x.pattern] held ev x = .candidate y te →
      (s.work fun e w => (matchEvent e ev (if report = true then w.offer r else w)).endFollows) =
        s.work fun e w => (complete e 6 i te false te
          { (if report = true then w.offer r else w) with
            held := held, trackers := w.trackers.set i (.waiting y), pstate := v.patState }).endFollows := by
  have event := matchEvent_releaseAlone (report := report) (r := r) hx free due hp hh
  have follows (w : Recog) (h1 : w.held = held) (h2 : w.outs = s.outState) :=
    endFollows_released (s := s) hp (h1.trans hh) h2
  have after : v = { s.queued report r with
      held := held, patState := (s.released ev.chan).patState, outState := (s.released ev.chan).outState } := by
    rw [hv, hh, State.queued_eq_push]
    cases report <;> rfl
  clear hv
  generalize (s.released ev.chan).patState = pstate at event after
  generalize (s.released ev.chan).outState = outs at follows after
  subst after
  refine ⟨fun y hy => ?_, fun y reason time hy => ?_, fun y te hy => ?_⟩ <;> rw [hy] at event
  · refine (State.work_offered report r (l := [])
      ((congrArg Recog.endFollows event).trans (follows _ rfl ?_)) ?_ ?_).trans ?_
    · cases report <;> rfl
    · cases report <;> rfl
    · exact (List.append_nil _).symm
    · rw [State.queued_eq_push]
      cases report <;> rfl
  · refine (State.work_offered report r ((congrArg Recog.endFollows event).trans (follows _ rfl ?_)) ?_ rfl).trans ?_
    · cases report <;> rfl
    · cases report <;> rfl
    · rw [State.takeOffers_if, State.queued_eq_push s]
      cases report <;> rfl
  · refine State.work_congr ((congrArg Recog.endFollows event).trans (congrArg Recog.endFollows ?_))
    cases report <;> rfl

end

end Sys2Proof.Machine
end

section
/-! PROOF. O19 to O22 settled: presses, releases, stuck presses and faults (02_channel_conditioning.md, sections 2.2 to
2.4), with the events that they hand on. -/

namespace Sys2Proof.Machine

/-! ## The threshold step (R18, R21 to R23) -/

section

variable {cfg : ChanCfg} {c : Chan} {t now : Time} {l : ChanLive} {n : Nat}

theorem thresholdStep_touched (h : (l.state = .idle ∧ n = 1) ∨ (l.state = .arming ∧ n = l.debounce + 1))
    (above : cfg.touch ≤ l.signal) : thresholdStep cfg c t now l =
      if cfg.pressDb ≤ n then confirmPress c t l else ({ l with state := .arming, debounce := n }, []) := by
  obtain ⟨state, raw, baseline, reference, signal, debounce⟩ := l
  dsimp only at h above
  unfold thresholdStep
  rcases h with ⟨rfl, rfl⟩ | ⟨rfl, rfl⟩ <;> dsimp only <;> rw [if_pos above]

theorem thresholdStep_untouched (h : l.state = .arming) (below : l.signal < cfg.touch) :
    thresholdStep cfg c t now l = ({ l with state := .idle, debounce := 0, track := 0 }, []) := by
  unfold thresholdStep
  rw [h]
  dsimp only
  rw [if_neg (Int.not_le.2 below)]
  rfl

theorem thresholdStep_lifted (h : (l.state = .pressed ∧ n = 1) ∨ (l.state = .releasing ∧ n = l.debounce + 1))
    (below : l.signal < (cfg.touch : Int) - cfg.hyst) : thresholdStep cfg c t now l =
      if cfg.releaseDb ≤ n then confirmRelease c t l else ({ l with state := .releasing, debounce := n }, []) := by
  obtain ⟨state, raw, baseline, reference, signal, debounce⟩ := l
  dsimp only at h below
  unfold thresholdStep
  rcases h with ⟨rfl, rfl⟩ | ⟨rfl, rfl⟩ <;> dsimp only <;> rw [if_pos below]

theorem thresholdStep_held (h : l.state = .releasing ∨ l.state = .pressed)
    (above : (cfg.touch : Int) - cfg.hyst ≤ l.signal) :
    thresholdStep cfg c t now l =
      (if l.state = .releasing then { l with state := .pressed, debounce := 0 } else l, []) := by
  unfold thresholdStep
  rcases h with h | h <;> rw [h] <;> dsimp only <;> rw [if_neg (Int.not_lt.2 above)] <;> rfl

end

/-! ## What is handed on (R25, R27 to R29) -/

theorem handAll_press (report : Bool) (c d : Chan) (t : Time) (e : Env) (w : Recog) :
    handAll report d [.event (naturalPress c t)] e w =
      matchEvent e (naturalPress c t)
        (if report = true then w.offer (.channel c .press (t.setWidth 16) 0) else w) := rfl

theorem handAll_release (report : Bool) (c d : Chan) (t : Time) (l : ChanLive) (e : Env) (w : Recog) :
    handAll report d [.event (naturalRelease c t l)] e w =
      (matchEvent e (naturalRelease c t l) (if report = true then
        w.offer (.channel c (.release .natural) (t.setWidth 16) (duration l.pressTime t)) else w)).endFollows := rfl

theorem handAll_stuck (report : Bool) (c d : Chan) (now : Time) (l : ChanLive) (e : Env) (w : Recog) :
    handAll report d [.event (syntheticRelease c .stuck now l)] e w =
      (matchEvent e (syntheticRelease c .stuck now l) (if report = true then
        w.offer (.channel c .stuck (now.setWidth 16) (duration l.pressTime now))
        else w)).endFollows.raise .channelAlert := rfl

/-- R62 with no tracker in use and no pattern READY: a PRESS joins the held set. -/
theorem State.work_pressNoTracker {s : State} {ev : Event} {report : Bool} {r : Record} (h : s.NoTracker)
    (hp : ev.press = true) (notReady : ∀ p : PatIdx, s.patState[p] ≠ .ready) :
    (s.work fun e w => matchEvent e ev (if report = true then w.offer r else w)) =
      { s.queued report r with held := s.held ||| 1#12 <<< ev.chan.val } := by
  have event : matchEvent s.env ev (if report = true then s.recog.offer r else s.recog) =
      { s.recog with
        offers := (if report = true then s.recog.offer r else s.recog).offers
        held := s.held ||| 1#12 <<< ev.chan.val } := by
    rw [matchEvent_noTracker _ _ _ (by cases report <;> exact h) (fun _ => by cases report <;> exact notReady)]
    unfold stage2
    rw [if_pos hp]
    cases report <;> rfl
  refine (State.work_offered report r (l := []) event rfl ?_).trans ?_
  · exact (List.append_nil _).symm
  · rw [State.queued_eq_push]
    cases report <;> rfl

/-- Settles O19: the counts are `thresholdStep_touched`, the PRESS at the matcher `State.work_pressAlone`. -/
theorem pressesAreConfirmed : Obligations.PressesAreConfirmed := by
  intro s t list c rest raw h l l' cfg hl hc hl' sat n hn
  subst hl hc
  have idle : s.chanLive[c].state = .idle ∨ s.chanLive[c].state = .arming := hn.imp And.left And.left
  have count : (l'.state = .idle ∧ n = 1) ∨ (l'.state = .arming ∧ n = l'.debounce + 1) := by rw [hl']; exact hn
  have signal : l'.signal = (raw.val : Int) - s.chanLive[c].baseline := by rw [hl']; rfl
  have result : chanResult s.chanCfg[c] c raw.val t s.time s.chanLive[c] = thresholdStep s.chanCfg[c] c t s.time l' :=
    chanResult_threshold hl' sat (idle.imp_right .inl)
  refine ⟨fun above few => ?_, fun below hs => ?_, fun above enough u ev record held hu hev hrec hheld => ?_⟩
  · refine exec_scanResult_quiet h (result.trans ?_)
    rw [thresholdStep_touched count (by rwa [signal]), if_neg (by omega)]
  · refine exec_scanResult_quiet h (result.trans ?_)
    rw [thresholdStep_untouched (by rw [hl']; exact hs) (by rwa [signal])]
  · have run : exec (.scanResult raw) s = .next (u.work fun e w =>
        matchEvent e ev (if s.chanCfg[c].report = true then w.offer record else w)) := by
      rw [exec_scanResult h (result.trans ((thresholdStep_touched count (by rwa [signal])).trans (if_pos enough)))]
      subst hu hev hrec
      rfl
    have heldBit : held = u.held ||| 1#12 <<< ev.chan.val := by rw [hheld, hu, hev]; rfl
    have press : ev.press = true := by rw [hev]
    refine ⟨run, fun notReady => ⟨fun free => ?_, fun i x r hx free due hr => ?_⟩⟩
    · rw [run, State.work_pressNoTracker (by subst hu; exact free) press (by subst hu; exact notReady), ← heldBit]
    · subst hr
      obtain ⟨stays, aborts, completes⟩ := State.work_pressAlone (s := u) (report := s.chanCfg[c].report) (r := record)
        (by subst hu; exact hx) (by subst hu; exact free) (by subst hev; exact due) press
        (by subst hu; exact notReady) heldBit
      subst hu
      exact ⟨fun y hy => run.trans (congrArg _ (stays y hy)),
        fun y reason time hy => run.trans (congrArg _ (aborts y reason time hy)),
        fun y te hy => run.trans (congrArg _ (completes y te hy))⟩

/-- Settles O20: the counts are `thresholdStep_lifted`, the RELEASE at the matcher `State.work_releaseAlone`. -/
theorem releasesAreConfirmed : Obligations.ReleasesAreConfirmed := by
  intro s t list c rest raw h l l' cfg hl hc hl' sat limit n hn
  subst hl hc
  have down : s.chanLive[c].state = .pressed ∨ s.chanLive[c].state = .releasing := hn.imp And.left And.left
  have isDown : s.chanLive[c].state.isDown = true := by rcases down with hs | hs <;> rw [hs] <;> rfl
  have count : (l'.state = .pressed ∧ n = 1) ∨ (l'.state = .releasing ∧ n = l'.debounce + 1) := by rw [hl']; exact hn
  have signal : l'.signal = (raw.val : Int) - s.chanLive[c].baseline := by rw [hl']; rfl
  have state : l'.state = s.chanLive[c].state := by rw [hl']; rfl
  have result : chanResult s.chanCfg[c] c raw.val t s.time s.chanLive[c] = thresholdStep s.chanCfg[c] c t s.time l' :=
    chanResult_threshold hl' sat (.inr (.inr ⟨isDown, limit⟩))
  refine ⟨fun below few => ?_, fun above hs => ?_, fun above hs => ?_,
    fun below enough u v ev dur record held hu hdur hev hrec hheld hv => ?_⟩
  · refine exec_scanResult_quiet h (result.trans ?_)
    rw [thresholdStep_lifted count (by rwa [signal]), if_neg (by omega)]
  · refine exec_scanResult_quiet h (result.trans ?_)
    rw [thresholdStep_held (.inl (state.trans hs)) (by rwa [signal]), if_pos (state.trans hs)]
  · refine exec_scanResult_quiet h (result.trans ?_)
    rw [thresholdStep_held (.inr (state.trans hs)) (by rwa [signal]), if_neg (by rw [state.trans hs]; nofun)]
  · have length : dur = duration l'.pressTime t := by rw [hdur, duration_eq, hl']; rfl
    have run : exec (.scanResult raw) s = .next (u.work fun e w =>
        (matchEvent e ev (if s.chanCfg[c].report = true then w.offer record else w)).endFollows) := by
      rw [exec_scanResult h (result.trans ((thresholdStep_lifted count (by rwa [signal])).trans (if_pos enough)))]
      subst hu hev hrec
      rw [length]
      rfl
    have chan : ev.chan = c := by rw [hev]
    have release : ev.press = false := by rw [hev]
    have heldBit : held = u.held &&& ~~~(1#12 <<< ev.chan.val) := by rw [hheld, hu, hev]; rfl
    refine ⟨run, fun free => ?_, fun i x r hx free due hr => ?_⟩
    · rw [run, State.work_release release _ _ (by subst hu; exact free), hv, chan]
    · subst hr
      obtain ⟨stays, aborts, completes⟩ := State.work_releaseAlone (s := u) (i := i) (x := x) (by subst hu; exact hx)
        (by subst hu; exact free) (by subst hev; exact due) release heldBit
        (hv.trans (by rw [chan]))
      subst hu
      exact ⟨fun y hy => run.trans (congrArg _ (stays y hy)),
        fun y reason time hy => run.trans (congrArg _ (aborts y reason time hy)),
        fun y te hy => run.trans (congrArg _ (completes y te hy))⟩

/-! ## Alerts and faults (R25, R137) -/

theorem State.push_raise (s : State) (f : EventFlag) (r : Record) : (s.raise f).push r = (s.push r).raise f := by
  unfold State.push State.raise raiseFlag
  dsimp only
  split
  · rfl
  · rw [BitVec.or_assoc, BitVec.or_comm f.mask, ← BitVec.or_assoc]

theorem State.takeOffers_raise (s : State) (f : EventFlag) (l : List Record) :
    (s.raise f).takeOffers l = (s.takeOffers l).raise f := by
  induction l generalizing s with
  | nil => rfl
  | cons r l ih => rw [State.takeOffers_cons, State.push_raise, ih, State.takeOffers_cons]

theorem State.work_raise (s : State) (g : Env → Recog → Recog) (f : EventFlag) :
    (s.work fun e w => (g e w).raise f) = (s.work g).raise f :=
  (s.putRecog (g s.env s.recog)).takeOffers_raise f _

theorem State.work_queued (s : State) (g : Env → Recog → Recog) (report : Bool) (r : Record) :
    (s.work fun e w => if report = true then (g e w).offer r else g e w) = (s.work g).queued report r := by
  rw [State.queued_eq_push]
  cases report with
  | false => rfl
  | true => exact (s.putRecog (g s.env s.recog)).takeOffers_append _ [r]

/-- Settles O21: a press at its limit hands on one STUCK release (`chanResult_stuck`). -/
theorem longPressesAreDeclaredStuck : Obligations.LongPressesAreDeclaredStuck := by
  intro s t list c rest raw h l l' cfg hl hc hl' sat hs hm limit u dur record hu hdur hrec
  subst hl hc
  have isDown : s.chanLive[c].state.isDown = true := by rcases hs with hs | hs <;> rw [hs] <;> rfl
  have length : dur = duration l'.pressTime s.time := by rw [hdur, duration_eq, hl']; rfl
  have run : exec (.scanResult raw) s = .next (u.work fun e w => ((matchEvent e
      { chan := c, press := false, time := s.time, cause := .stuck, duration := dur }
      (if s.chanCfg[c].report = true then w.offer record else w)).endFollows).raise .channelAlert) := by
    rw [exec_scanResult h (chanResult_stuck hl' sat isDown hm limit)]
    subst hu hrec hl'
    rw [length]
    rfl
  refine ⟨fun free => ?_, run⟩
  rw [run, State.work_raise, State.work_release rfl _ _ (by subst hu; exact free)]

/-- R16: no step of a result changes SAT_COUNT or the extreme once they are counted. -/
theorem baselineStep_sat (cfg : ChanCfg) (l : ChanLive) :
    (baselineStep cfg l).satCount = l.satCount ∧ (baselineStep cfg l).satHigh = l.satHigh := by
  unfold baselineStep
  split
  · exact ⟨rfl, rfl⟩
  · split
    · exact ⟨rfl, rfl⟩
    · split <;> exact ⟨rfl, rfl⟩

theorem thresholdStep_sat (cfg : ChanCfg) (c : Chan) (t now : Time) (l : ChanLive) :
    (thresholdStep cfg c t now l).1.satCount = l.satCount ∧ (thresholdStep cfg c t now l).1.satHigh = l.satHigh := by
  have track : (trackStep cfg c now l).1.satCount = l.satCount ∧ (trackStep cfg c now l).1.satHigh = l.satHigh := by
    unfold trackStep
    dsimp only
    split <;> exact baselineStep_sat cfg l
  unfold thresholdStep
  dsimp only
  split
  · split
    · split <;> exact ⟨rfl, rfl⟩
    · exact track
  · split
    · split <;> exact ⟨rfl, rfl⟩
    · exact ⟨rfl, rfl⟩
  · split
    · split <;> exact ⟨rfl, rfl⟩
    · exact ⟨rfl, rfl⟩
  · split
    · split <;> exact ⟨rfl, rfl⟩
    · exact ⟨rfl, rfl⟩
  all_goals exact ⟨rfl, rfl⟩

theorem chanResult_sat {cfg : ChanCfg} {c : Chan} {raw : Fin 4096} {t now : Time} {l : ChanLive}
    (h : l.state.isMeasured = true) : (chanResult cfg c raw.val t now l).1.satCount = (l.counted raw).satCount
      ∧ (chanResult cfg c raw.val t now l).1.satHigh = (l.counted raw).satHigh := by
  rw [chanResult_measured h rfl]
  split
  · exact ⟨rfl, rfl⟩
  · split
    · unfold settleStep
      dsimp only
      split <;> exact ⟨rfl, rfl⟩
    · split
      · exact ⟨rfl, rfl⟩
      · exact thresholdStep_sat ..

/-- R25, steps 3 and 4, at the end of a faulted channel's work. -/
theorem State.work_faulted (s : State) (g : Env → Recog → Recog) (report : Bool) (c : Chan) (reason : FaultReason) :
    (s.work fun e w => noteFault report c reason e (g e w)) =
      ((s.work g).queued report (.channel c (.fault reason) (s.time.setWidth 16) 0)).raise .channelAlert := by
  rw [← State.work_queued, ← State.work_raise]
  rfl

/-- R25: a channel that is not down is faulted. -/
theorem exec_scanResult_faults {s : State} {t : Time} {list : List Chan} {c : Chan} {rest : List Chan} {raw : Fin 4096}
    {l : ChanLive} {reason : FaultReason} (h : s.Delivers t list c rest) (up : l.state.isDown = false)
    (hr : chanResult s.chanCfg[c] c raw.val t s.time s.chanLive[c] = faultEntry c reason s.time l) :
    exec (.scanResult raw) s = .next (((s.delivered list c rest (enterFault reason l)).queued s.chanCfg[c].report
      (.channel c (.fault reason) (s.time.setWidth 16) 0)).raise .channelAlert) := by
  rw [faultEntry, up] at hr
  rw [exec_scanResult h hr]
  exact congrArg _ ((s.delivered list c rest (enterFault reason l)).work_faulted (fun _ w => w) _ _ _)

/-- Settles O22: the count (`chanResult_sat`), the third extreme (`chanResult_saturated`), the drift
(`trackStep_drifts`). -/
theorem faultsAreEntered : Obligations.FaultsAreEntered := by
  intro s t list c rest raw h l l' cfg hl hc hl'
  subst hl hc
  have measured (hm : c ∈ measuredIn s.chanLive) : s.chanLive[c].state.isMeasured = true :=
    (isMeasured_iff _).2 ((mem_measuredIn _ _).1 hm)
  refine ⟨fun extreme hm => ?_, fun extreme hm two high u reason dur release fault hreason hu hdur hrel hfault => ?_,
    fun b hb hs sat below moved limit far => ?_⟩
  · obtain ⟨count, high⟩ :=
      chanResult_sat (cfg := s.chanCfg[c]) (c := c) (raw := raw) (t := t) (now := s.time) (measured hm)
    cases result : chanResult s.chanCfg[c] c raw.val t s.time s.chanLive[c] with
    | mk l2 ns =>
      rw [result] at count high
      refine ⟨_, exec_scanResult h result, ?_⟩
      rw [State.work_frame]
      simp only [State.delivered, getElem_set_fin, if_true]
      exact ⟨high.trans (if_pos extreme), count.trans (if_pos extreme)⟩
  · have three : l'.satCount = 3 := by
      rw [hl']
      refine (if_pos extreme).trans ((if_pos ⟨?_, high⟩).trans ?_)
      · omega
      · omega
    have side : l'.satHigh = (raw.val == 4095) := by rw [hl']; exact if_pos extreme
    have why : (if l'.satHigh = true then FaultReason.isOpen else .short) = reason := by
      rw [hreason, side]
      simp only [beq_iff_eq]
    have result := chanResult_saturated (cfg := s.chanCfg[c]) (c := c) (t := t) (now := s.time) (measured hm) hl'
      (Nat.le_of_eq three.symm)
    have live : s.delivered list c rest (enterFault reason l') = u := by
      have counted : l' = { s.chanLive[c] with
          raw := raw.val, signal := (raw.val : Int) - s.chanLive[c].baseline
          satCount := l'.satCount, satHigh := l'.satHigh } := by rw [hl']; rfl
      rw [three, side, ← high] at counted
      rw [hu, counted]
      rfl
    have down : l'.state.isDown = s.chanLive[c].state.isDown := by rw [hl']; rfl
    have length : dur = duration l'.pressTime s.time := by rw [hdur, duration_eq, hl']; rfl
    have time : u.time = s.time := by rw [hu]; rfl
    rw [why] at result
    constructor
    · intro up
      rw [exec_scanResult_faults h (down.trans up) result, live, hfault]
    · intro isDown
      rw [faultEntry, down, isDown] at result
      have run : exec (.scanResult raw) s = .next (u.work fun e w => noteFault s.chanCfg[c].report c reason e
          (matchEvent e { chan := c, press := false, time := s.time, cause := .fault, duration := dur }
            (if s.chanCfg[c].report = true then w.offer release else w)).endFollows) := by
        rw [exec_scanResult h result, live, hrel, length]
        rfl
      refine ⟨fun free => ?_, run.trans ?_⟩
      · rw [run, State.work_faulted, State.work_release rfl _ _ (by subst hu; exact free), time, hfault]
      · rw [hfault, ← time]
        rfl
  · have step := baselineStep_counted s.chanLive[c] s.chanCfg[c] raw
    have stays : ¬ (-(s.chanCfg[c].noiseBand : Int) ≤ (raw.val : Int) - s.chanLive[c].baseline
        ∧ (raw.val : Int) - s.chanLive[c].baseline ≤ s.chanCfg[c].noiseBand
        ∧ s.chanLive[c].track + 1 < s.chanCfg[c].trackInterval) := by
      rintro ⟨low, -, few⟩
      refine moved (hb.trans ?_)
      rw [ChanLive.trackedBaseline, if_neg (by omega), if_pos (.inr few)]
    rw [if_neg stays, ← hb, ← hl'] at step
    have state : l'.state = .idle := by rw [hl']; exact hs
    have result :=
        (chanResult_threshold (cfg := s.chanCfg[c]) (c := c) (t := t) (now := s.time) hl' sat (.inl hs)).trans
      ((thresholdStep_idle state (by rw [hl']; exact below)).trans
        (trackStep_drifts step (by rw [hl']; exact moved) limit (by rw [hl']; exact far)))
    exact exec_scanResult_faults h (by rw [state]; rfl) result

end Sys2Proof.Machine
end

section
/-! PROOF. O40, O41: BEGIN_PATTERN, APPEND_STEP, END_PATTERN and ABANDON_PATTERN
(03_patterns_and_the_step_pool.md, section 3.5). -/

namespace Sys2Proof.Machine

/-! ## Defining (R48) -/

/-- R48, R49, R51: a command of an open build, and its refusal where none is open. -/
theorem cmdByte_onBuild {s : State} {p : PatIdx} (code : Byte) (f : PatIdx → State → State) (hs : s.Takes)
    (hb : s.build = some p) : cmdByte code (fun v => v.onBuild f) s = f p (s.taken code) := by
  rw [cmdByte_takes hs]
  unfold State.onBuild
  rw [show ({ s.acked with engine := { s.engine with cmd := code } } : State).build = some p from hb]
  rfl

theorem cmdByte_noBuild {s : State} (code : Byte) (f : PatIdx → State → State) (hs : s.Takes)
    (hb : s.build = none) : cmdByte code (fun v => v.onBuild f) s = s.posted code .noBuild 0 := by
  rw [cmdByte_takes hs]
  unfold State.onBuild
  rw [show ({ s.acked with engine := { s.engine with cmd := code } } : State).build = none from hb]
  rfl

/-- Settles O40: the refusals in their order, then the new state. -/
theorem beginAndAppendBuildAPattern : Obligations.BeginAndAppendBuildAPattern := by
  constructor
  · intro s hs
    refine ⟨fun hi => congrArg _ (cmdByte_onPattern_badIndex 0x10 beginAt hs hi), fun p hp => ?_⟩
    have run : exec .beginPattern s = .next (beginAt p (s.taken 0x10)) :=
        congrArg _ (cmdByte_onPattern 0x10 beginAt hs hp)
    rw [run]
    unfold beginAt
    refine ⟨?_, fun hb => ⟨fun he => ?_, fun he => ?_⟩⟩
    · rintro ⟨q, hq, hne⟩
      have other : (s.taken 0x10).build.isSome ∧ (s.taken 0x10).build ≠ some p := by
        rw [show (s.taken 0x10).build = some q from hq]
        exact ⟨rfl, fun e => hne (Option.some.inj e)⟩
      rw [if_pos other]
      rfl
    all_goals
      have mine : ¬ ((s.taken 0x10).build.isSome ∧ (s.taken 0x10).build ≠ some p) := by
        rintro ⟨some_, ne⟩
        rcases hb with hb | hb
        · exact absurd (hb ▸ some_ : (none : Option PatIdx).isSome = true) nofun
        · exact ne hb
      rw [if_neg mine]
    · rw [if_pos (show (s.taken 0x10).patState[p] ≠ .empty from he)]
      rfl
    · rw [if_neg (not_not.2 (show (s.taken 0x10).patState[p] = .empty from he))]
      refine ⟨fun n hn => ?_, fun h hh => ?_⟩
      · rw [show readHeader (s.taken 0x10).engine.buf = .bad n from hn]
        rfl
      · rw [show readHeader (s.taken 0x10).engine.buf = .good h from hh]
        rfl
  · intro s hs
    refine ⟨fun hb => congrArg _ (cmdByte_noBuild 0x11 appendAt hs hb), fun p d hb hd => ?_⟩
    have run : exec .appendStep s = .next (appendAt p (s.taken 0x11)) :=
        congrArg _ (cmdByte_onBuild 0x11 appendAt hs hb)
    rw [run]
    subst hd
    unfold appendAt
    dsimp only
    refine ⟨fun many => ?_, fun few full => ?_, fun few room => ?_⟩
    · rw [if_pos (show 8 ≤ (s.taken 0x11).patDef[p].steps.length from many)]
      rfl
    · rw [if_neg (show ¬ 8 ≤ (s.taken 0x11).patDef[p].steps.length from Nat.not_le.2 few),
        if_pos (show (s.taken 0x11).poolFree = 0 from full)]
      rfl
    · rw [if_neg (show ¬ 8 ≤ (s.taken 0x11).patDef[p].steps.length from Nat.not_le.2 few),
        if_neg (show ¬ (s.taken 0x11).poolFree = 0 from room)]
      refine ⟨fun n hn => ?_, fun x hx => ?_⟩
      · rw [show readStep (s.taken 0x11).engine.buf (s.taken 0x11).patDef[p].steps = .bad n from hn]
        rfl
      · rw [show readStep (s.taken 0x11).engine.buf (s.taken 0x11).patDef[p].steps = .good x from hx]
        rfl

/-! ## The checks of END_PATTERN (R49) -/

/-- The step directly before place `i`, where `prev` stands before the list. -/
def stepBefore (prev : Option Step) (steps : List Step) (i : Nat) : Option Step :=
  match i with
  | 0 => prev
  | j + 1 => steps[j]?

/-- A step and the one before it, at any place of a list. -/
theorem exists_place_cons {prev : Option Step} {a : Step} {steps : List Step} {P : Step → Option Step → Prop} :
    (∃ i x, (a :: steps)[i]? = some x ∧ P x (stepBefore prev (a :: steps) i)) ↔
      P a prev ∨ ∃ i x, steps[i]? = some x ∧ P x (stepBefore (some a) steps i) := by
  constructor
  · rintro ⟨i, x, hx, h⟩
    cases i with
    | zero =>
      cases Option.some.inj hx
      exact .inl h
    | succ i =>
      refine .inr ⟨i, x, hx, ?_⟩
      cases i <;> exact h
  · rintro (h | ⟨i, x, hx, h⟩)
    · exact ⟨0, a, rfl, h⟩
    · refine ⟨i + 1, x, hx, ?_⟩
      cases i <;> exact h

theorem subset_iff (a b : ChanSet) : subset a b = true ↔ a &&& ~~~b = 0 := by
  rw [subset, beq_iff_eq]
  constructor <;> intro h
  · calc a &&& ~~~b = (a &&& b) &&& ~~~b := by rw [h]
      _ = 0 := by rw [BitVec.and_assoc, BitVec.and_not_self]; exact BitVec.and_zero
  · calc a &&& b = (a &&& b) ||| (a &&& ~~~b) := by rw [h]; exact BitVec.or_zero.symm
      _ = a := by rw [← BitVec.and_or_distrib_left, BitVec.or_not_self, BitVec.and_allOnes]

/-- A CHORD or HOLD whose set contains that of `x`. -/
def covers (x y : Step) : Prop := (y.kind = .chord ∨ y.kind = .hold) ∧ x.channels &&& ~~~y.channels = 0

theorem covers_iff (x y : Step) : (holdsOn y && subset x.channels y.channels) = true ↔ covers x y := by
  simp only [Bool.and_eq_true, holdsOn, Bool.or_eq_true, beq_iff_eq, covers, subset_iff]

theorem holdsBacked_cons (prev : Option Step) (a : Step) (steps : List Step) : holdsBacked prev (a :: steps) =
    ((a.kind != .hold || prev.any fun y => holdsOn y && subset a.channels y.channels) &&
      holdsBacked (some a) steps) := by
  cases prev <;> rfl

theorem chordsAdd_cons (prev : Option Step) (a : Step) (steps : List Step) : chordsAdd prev (a :: steps) =
    ((a.kind != .chord || !prev.any fun y => holdsOn y && subset a.channels y.channels) &&
      chordsAdd (some a) steps) := by
  cases prev <;> rfl

/-- A step directly before that covers `x`. -/
theorem any_covers_iff (x : Step) (prev : Option Step) :
    (prev.any fun y => holdsOn y && subset x.channels y.channels) = true ↔ ∃ y, prev = some y ∧ covers x y := by
  rw [Option.any_eq_true]
  simp only [covers_iff]

/-- R49, check 2. -/
theorem holdsBacked_eq_false_iff (prev : Option Step) (steps : List Step) : holdsBacked prev steps = false ↔
    ∃ i x, steps[i]? = some x ∧ x.kind = .hold ∧ ¬ ∃ y, stepBefore prev steps i = some y ∧ covers x y := by
  induction steps generalizing prev with
  | nil => simp [holdsBacked]
  | cons a steps ih =>
    rw [exists_place_cons (P := fun x b => x.kind = .hold ∧ ¬ ∃ y, b = some y ∧ covers x y), ← ih (some a),
      holdsBacked_cons, ← any_covers_iff, Bool.and_eq_false_iff, Bool.or_eq_false_iff, bne_eq_false_iff_eq,
        Bool.not_eq_true]

/-- R49, check 3. -/
theorem chordsAdd_eq_false_iff (prev : Option Step) (steps : List Step) : chordsAdd prev steps = false ↔
    ∃ i x, steps[i]? = some x ∧ x.kind = .chord ∧ ∃ y, stepBefore prev steps i = some y ∧ covers x y := by
  induction steps generalizing prev with
  | nil => simp [chordsAdd]
  | cons a steps ih =>
    rw [exists_place_cons (P := fun x b => x.kind = .chord ∧ ∃ y, b = some y ∧ covers x y), ← ih (some a),
      chordsAdd_cons, ← any_covers_iff, Bool.and_eq_false_iff, Bool.or_eq_false_iff, bne_eq_false_iff_eq,
      Bool.not_eq_false']

theorem stepBefore_none {steps : List Step} {i : Nat} {y : Step} :
    stepBefore none steps i = some y ↔ ∃ j, i = j + 1 ∧ steps[j]? = some y := by
  cases i with
  | zero => simp [stepBefore]
  | succ i => simp [stepBefore]

theorem endChecks_sorted (d : PatDef) : (endChecks d).Pairwise fun a b => a.1 < b.1 := by simp [endChecks]

/-- R49: the checks as their conditions. -/
theorem endChecks_fails (d : PatDef) (n : Nat) : (n, false) ∈ endChecks d ↔ EndCheckFails d.header d.steps n := by
  have hold : holdsBacked none d.steps = false ↔ EndCheckFails d.header d.steps 2 := by
    rw [holdsBacked_eq_false_iff]
    refine exists_congr fun i => exists_congr fun x => and_congr_right fun _ => and_congr_right fun _ => not_congr ?_
    simp only [stepBefore_none, covers]
    exact ⟨fun ⟨y, ⟨j, hi, hj⟩, h⟩ => ⟨j, y, hi, hj, h⟩, fun ⟨j, y, hi, hj, h⟩ => ⟨y, ⟨j, hi, hj⟩, h⟩⟩
  have chord : chordsAdd none d.steps = false ↔ EndCheckFails d.header d.steps 3 := by
    rw [chordsAdd_eq_false_iff]
    simp only [stepBefore_none, covers]
    constructor
    · rintro ⟨i, x, hx, hk, y, ⟨j, rfl, hj⟩, hy⟩
      exact ⟨j, x, y, hx, hj, hk, hy⟩
    · rintro ⟨j, x, y, hx, hj, hk, hy⟩
      exact ⟨j + 1, x, hx, hk, y, ⟨j, rfl, hj⟩, hy⟩
  have follow : followAllowed d.header d.steps = false ↔ EndCheckFails d.header d.steps 4 := by
    rw [followAllowed_eq_false_iff]
    simp [EndCheckFails]
  have pulse : pulseAllowed d.header = false ↔ EndCheckFails d.header d.steps 5 := pulseAllowed_eq_false_iff _
  rcases n with _ | _ | _ | _ | _ | _ | n
  · simp [endChecks, EndCheckFails]
  · simp [endChecks, EndCheckFails, eq_comm (a := false)]
  · simpa [endChecks, eq_comm (a := false)] using hold
  · simpa [endChecks, eq_comm (a := false)] using chord
  · simpa [endChecks, eq_comm (a := false)] using follow
  · simpa [endChecks, eq_comm (a := false)] using pulse
  · simp [endChecks, EndCheckFails]

/-- R49, R50: END_PATTERN where every check passes. -/
theorem endAt_passes {s : State} {p : PatIdx} (h : firstFail (endChecks s.patDef[p]) = none) :
    endAt p s = { s with
      patDef := s.patDef.set p { s.patDef[p] with univ := unionOf s.patDef[p].steps }
      patState := s.patState.set p (if s.patDef[p].header.startEnabled then .ready else .disabled)
      build := none }.postOk := by
  unfold endAt
  dsimp only
  rw [h]
  rfl

theorem endAt_fails {s : State} {p : PatIdx} {n : Nat} (h : firstFail (endChecks s.patDef[p]) = some n) :
    endAt p s = s.postResult .invalidPattern (byteOf n) := by
  unfold endAt
  dsimp only
  rw [h]

theorem exec_endPattern {s : State} {p : PatIdx} (hs : s.Takes) (hb : s.build = some p) :
    exec .endPattern s = .next (endAt p (s.taken 0x12)) :=
  congrArg Host.Outcome.next (cmdByte_onBuild 0x12 endAt hs hb)

theorem exec_abandonPattern {s : State} {p : PatIdx} (hs : s.Takes) (hb : s.build = some p) :
    exec .abandonPattern s = .next (abandonAt p (s.taken 0x13)) :=
  congrArg Host.Outcome.next (cmdByte_onBuild 0x13 abandonAt hs hb)

theorem abandonAt_eq (p : PatIdx) (s : State) : abandonAt p s = { s with
    patDef := s.patDef.set p PatDef.empty
    patState := s.patState.set p .empty
    poolFree := s.poolFree + s.patDef[p].steps.length
    build := none }.postOk := rfl

theorem exec_closeBuild_noBuild {s : State} (hs : s.Takes) (hb : s.build = none) :
    exec .endPattern s = .next (s.posted 0x12 .noBuild 0) ∧
      exec .abandonPattern s = .next (s.posted 0x13 .noBuild 0) :=
  ⟨congrArg Host.Outcome.next (cmdByte_noBuild 0x12 endAt hs hb),
    congrArg Host.Outcome.next (cmdByte_noBuild 0x13 abandonAt hs hb)⟩

/-- R49: the check reported is the lowest-numbered one that fails. -/
theorem firstFail_endChecks_eq_some {d : PatDef} {n : Nat} (hn : EndCheckFails d.header d.steps n)
    (low : ∀ m, EndCheckFails d.header d.steps m → n ≤ m) : firstFail (endChecks d) = some n :=
  (firstFail_iff _ (endChecks_sorted d) n).2 ⟨(endChecks_fails d n).2 hn, fun m hm h =>
    absurd (low m ((endChecks_fails d m).1 h)) (Nat.not_le.2 hm)⟩

theorem firstFail_endChecks_eq_none {d : PatDef} (pass : ∀ n, ¬ EndCheckFails d.header d.steps n) :
    firstFail (endChecks d) = none :=
  (firstFail_eq_none_iff _).2 fun c hc => Bool.of_not_eq_false fun h =>
    pass c.1 ((endChecks_fails d c.1).1 (h ▸ hc))

/-- Settles O41: the checks by their conditions (`endChecks_fails`), the lowest that fails first. -/
theorem endAndAbandonCloseTheBuild : Obligations.EndAndAbandonCloseTheBuild := by
  intro s hs
  refine ⟨exec_closeBuild_noBuild hs, fun p d hb hd => ?_⟩
  subst hd
  refine ⟨fun n hn low => ?_, fun pass => ?_, ?_⟩
  · rw [exec_endPattern hs hb, endAt_fails (s := s.taken 0x12) (firstFail_endChecks_eq_some hn low)]
    rfl
  · rw [exec_endPattern hs hb, endAt_passes (s := s.taken 0x12) (firstFail_endChecks_eq_none pass)]
    rfl
  · rw [exec_abandonPattern hs hb, abandonAt_eq]
    rfl

end Sys2Proof.Machine
end

section
/-! PROOF. O37, O38: the output block (06_outputs.md, sections 6.3 to 6.6). -/

namespace Sys2Proof.Machine

/-- R145: a data byte at the register that it is for. -/
theorem writeByteAt_hit {act : State → State} {s : State} {a : RegAddr} (h : s.WritesAt a) :
    writeByteAt a act s = act s.acked := writeByteIf_hit h (beq_self_eq_true a)

/-! ## Pulse ends and host levels (R119, R123, R126) -/

theorem State.set_outState_self {s : State} {o : OutIdx} {x : OutState} (h : s.outState[o] = x) :
    ({ s with outState := s.outState.set o x } : State) = s := by
  subst h
  have same : s.outState.set o s.outState[o] = s.outState := Vector.set_getElem_self ..
  rw [same]

theorem State.restoring_iff (s : State) : s.restoring = true ↔ ∃ x, s.engine.inFlight = some (.restore x) := by
  unfold State.restoring
  split
  · next x h => exact iff_of_true rfl ⟨x, h⟩
  · next h => exact iff_of_false nofun fun ⟨x, hx⟩ => h x hx

theorem applyLevel_eq (b : Byte) (i : OutIdx) (c : OutCfg) (o : OutState) : applyLevel (b.setWidth 6) i c o =
    if c.enable = true ∧ c.mode = .host ∧ o ≠ .off then (if b.getLsbD i.val then .high else .low) else o := by
  have low : (b.setWidth 6).getLsbD i.val = b.getLsbD i.val := by
    rw [BitVec.getLsbD_setWidth]
    simp [i.isLt]
  simp only [applyLevel, low, Bool.and_eq_true, beq_iff_eq, bne_iff_ne, and_assoc]

/-- Settles O37: a PULSE_END by whether its due time is reached, OUT_LEVEL by whether a restore runs. -/
theorem pulseEndsAndHostLevels : Obligations.PulseEndsAndHostLevels := by
  refine ⟨fun s o due h => ⟨fun hd => ?_, fun hd => ?_⟩, fun s o h => ?_, fun s b hw => ⟨fun hr => ?_, fun x hr => ?_⟩⟩
  · refine congrArg Host.Outcome.next ?_
    rw [h, endPulse, if_pos ((reached_iff due s.time).2 hd)]
  · refine congrArg Host.Outcome.next (State.set_outState_self ?_)
    rw [h, endPulse, if_neg (fun e => Nat.not_lt.2 hd ((reached_iff due s.time).1 e))]
  · refine congrArg Host.Outcome.next (State.set_outState_self ?_)
    cases hs : s.outState[o] with
    | pulsing due => exact absurd hs (h due)
    | off | low | high | following set => rfl
  · refine congrArg Host.Outcome.next ((writeByteAt_hit hw).trans ?_)
    have idle : s.acked.restoring = false := Bool.eq_false_of_not_eq_true fun h => by
      obtain ⟨x, hx⟩ := (State.restoring_iff _).1 h
      exact hr x hx
    unfold writeOutLevel
    rw [idle]
    simp only [applyLevel_eq]
    rfl
  · refine congrArg Host.Outcome.next ((writeByteAt_hit hw).trans ?_)
    unfold writeOutLevel
    rw [(State.restoring_iff s.acked).2 ⟨x, hr⟩]
    rfl

/-! ## Actions (R116 to R120) -/

theorem Recog.act_skipped {e : Env} {a : Action} {w : Recog}
    (h : actionSkipped e.outCfg[a.out] w.outs[a.out] a w.held = true) : w.act e a = w := if_pos h

theorem Recog.act_applied {e : Env} {a : Action} {w : Recog}
    (h : actionSkipped e.outCfg[a.out] w.outs[a.out] a w.held = false) :
    w.act e a = w.setOut a.out (applyAction e.now e.outCfg[a.out] w.outs[a.out] a w.held) :=
  if_neg (by rw [h]; nofun)

theorem Recog.setOut_self {w : Recog} {o : OutIdx} : w.setOut o w.outs[o] = w := by
  have same : w.outs.set o w.outs[o] = w.outs := Vector.set_getElem_self ..
  unfold Recog.setOut
  rw [same]

theorem startPulse_eq (now due : Time) :
    startPulse now due = if (now - due).toNat < 2 ^ 31 then .low else .pulsing due := by
  simp only [startPulse, reached_iff]

/-- Settles O38: the skipped action, then each operation's table. -/
theorem actionsLeadToTheirStates : Obligations.ActionsLeadToTheirStates := by
  intro e a w c o set due hc ho hset hdue
  have skips : actionSkipped c o a w.held = true ↔
      c.enable = false ∨ o = .off ∨ c.mode = .host ∨ (a.op = .follow ∧ set = 0) := by
    simp [actionSkipped, followSetOf, hset, or_assoc]
  subst hc ho
  refine ⟨fun h => Recog.act_skipped (skips.2 h), fun he hoff hm => ?_⟩
  have applied (h : ¬ (a.op = .follow ∧ set = 0)) :
      w.act e a = w.setOut a.out (applyAction e.now e.outCfg[a.out] w.outs[a.out] a w.held) := by
    refine Recog.act_applied (Bool.eq_false_of_not_eq_true fun hs => ?_)
    rcases skips.1 hs with h1 | h1 | h1 | h1
    · exact absurd (he.symm.trans h1) nofun
    · exact hoff h1
    · exact absurd (hm.symm.trans h1) nofun
    · exact h h1
  have other {op : ActionOp} (h : a.op = op) (hne : op ≠ .follow) : ¬ (a.op = .follow ∧ set = 0) :=
    fun hf => hne (h.symm.trans hf.1)
  refine ⟨fun h => ?_, fun h => ?_, fun h => ?_, fun h hr => ?_, fun h hk hold => ?_, fun h hs => ?_⟩
  · rw [applied (other h nofun)]
    unfold applyAction
    rw [h]
  · rw [applied (other h nofun)]
    unfold applyAction
    rw [h]
  · rw [applied (other h nofun)]
    unfold applyAction
    rw [h]
    dsimp only
    cases hx : w.outs[a.out] with
    | off => exact absurd hx hoff
    | low | high | pulsing due | following set => rfl
  · rw [applied (other h nofun), hdue, ← startPulse_eq]
    unfold applyAction
    rw [h]
    dsimp only
    cases hx : w.outs[a.out] with
    | pulsing old =>
      rcases hr with hr | hr
      · rw [hr]
        rfl
      · exact absurd hx (hr old)
    | off | low | high | following set => rfl
  · obtain ⟨old, hx⟩ := hold
    rw [applied (other h nofun)]
    unfold applyAction
    rw [h, hx, hk]
    dsimp only
    rw [← hx]
    exact Recog.setOut_self
  · rw [applied (fun hf => hs hf.2), hset]
    unfold applyAction
    rw [h]
    rfl

end Sys2Proof.Machine
end

section
/-! PROOF. O29, O33: what the part's own work leaves of a transaction at the host port
(08_host_port_and_command_engine.md, sections 8.1 and 8.2). Work keeps the port's place in the transaction, and each
command's work is one. -/

namespace Sys2Proof.Machine

/-- The place of the port in a transaction: present or not, the bus state, the register pointer, the answer on SDA and
the snapshot. -/
def State.onBus (s : State) : Mode × Bus × RegAddr × Bool × Option (List Byte) :=
  (s.mode, s.port.bus, s.port.pointer, s.port.ack, s.port.snapshot)

/-- Work that leaves the port where it is in a transaction. -/
def KeepsBus (f : State → State) : Prop := ∀ s : State, (f s).onBus = s.onBus

namespace KeepsBus

theorem self : KeepsBus fun s => s := fun _ => rfl

theorem comp {f g : State → State} (hf : KeepsBus f) (hg : KeepsBus g) : KeepsBus fun s => f (g s) :=
  fun s => (hf (g s)).trans (hg s)

theorem foldl {α : Type} {f : State → α → State} (h : ∀ a, KeepsBus fun s => f s a) (l : List α) :
    KeepsBus fun s => l.foldl f s := by
  intro s
  induction l generalizing s with
  | nil => rfl
  | cons a l ih => exact (ih (f s a)).trans (h a s)

theorem postResult (r : Result) (d : Byte) : KeepsBus fun s => s.postResult r d := fun _ => rfl

theorem postOk : KeepsBus State.postOk := postResult .ok 0

theorem work (f : Env → Recog → Recog) : KeepsBus fun s => s.work f := fun s => by
  dsimp only
  rw [State.work_frame]
  rfl

/-! ## Scanner and channels -/

theorem chanStep (c : Chan) (r : ChanLive × List Notice) : KeepsBus fun s => s.chanStep none c r := fun s =>
  work (handAll s.chanCfg[c].report c r.2) (s.setLive c r.1)

theorem haltOne (c : Chan) : KeepsBus (haltOne c) := by
  intro s
  unfold Machine.haltOne
  dsimp only
  split
  · exact chanStep c _ s
  · rfl

theorem recalibrateOne (c : Chan) : KeepsBus (recalibrateOne c) := by
  intro s
  unfold Machine.recalibrateOne
  dsimp only
  split
  · rfl
  · exact chanStep c _ s

theorem recalibrateWork : KeepsBus recalibrateWork := by
  intro s
  have turns : KeepsBus fun v => allChans.foldl (fun v c =>
      if hasChan (recalSet s.engine.arg0 s.engine.arg1) c then Machine.recalibrateOne c v else v) v :=
    foldl (fun c v => by dsimp only; split; exacts [recalibrateOne c v, rfl]) _
  exact postOk.comp turns s

theorem stopScanWork : KeepsBus stopScanWork := by
  have halts : KeepsBus fun s => allChans.foldl (fun v c => Machine.haltOne c v) s := foldl haltOne _
  have stops : KeepsBus fun s => s.stopped.postOk := fun _ => rfl
  intro s
  rw [stopScanWork_eq]
  split
  · exact stops.comp halts { s with scanner := { s.scanner with scan := none } }
  · rfl

theorem startScanWork : KeepsBus startScanWork := by
  intro s
  rw [startScanWork_eq]
  split <;> rfl

theorem writeChannel (c : Chan) (cfg : ChanCfg) : KeepsBus (writeChannel c cfg) := by
  intro s
  unfold Machine.writeChannel
  dsimp only
  split
  · split <;> rfl
  · split
    · rfl
    · exact chanStep c _ { s with chanCfg := s.chanCfg.set c cfg }

/-! ## Records and patterns -/

theorem offersAddress (address : BusAddr) : KeepsBus fun s => { s with port := offerAddress address s.port } := by
  intro s
  unfold offerAddress State.onBus
  dsimp only
  split <;> rfl

theorem writeJudged {α : Type} (j : Judged α) {f : α → State → State} (h : ∀ x, KeepsBus (f x)) :
    KeepsBus fun s => s.writeJudged j f := by
  intro s
  unfold State.writeJudged
  cases j with
  | good x => exact postOk.comp (h x) s
  | bad n => rfl

theorem writeRecordWork : KeepsBus writeRecordWork := by
  intro s
  unfold Machine.writeRecordWork
  split
  · exact writeJudged _ (fun g v => offersAddress g.address { v with globals := g }) s
  · split
    · rfl
    · exact writeJudged _ (writeChannel _) s
  · split
    · rfl
    · exact writeJudged _ (fun x => (fun _ => rfl : KeepsBus (writeOutput _ x))) s
  all_goals rfl

theorem readRecordWork : KeepsBus readRecordWork := by
  intro s
  unfold Machine.readRecordWork
  split <;> rfl

theorem onPattern {f : PatIdx → State → State} (h : ∀ p, KeepsBus (f p)) : KeepsBus fun v => v.onPattern f := by
  intro s
  unfold State.onPattern
  dsimp only
  split
  · rfl
  · exact h _ s

theorem onBuild {f : PatIdx → State → State} (h : ∀ p, KeepsBus (f p)) : KeepsBus fun v => v.onBuild f := by
  intro s
  unfold State.onBuild
  dsimp only
  split
  · rfl
  · exact h _ s

theorem beginAt (p : PatIdx) : KeepsBus (beginAt p) := by
  intro s
  unfold Machine.beginAt
  split
  · rfl
  · split
    · rfl
    · split <;> rfl

theorem appendAt (p : PatIdx) : KeepsBus (appendAt p) := by
  intro s
  unfold Machine.appendAt
  dsimp only
  split
  · rfl
  · split
    · rfl
    · split <;> rfl

theorem endAt (p : PatIdx) : KeepsBus (endAt p) := by
  intro s
  unfold Machine.endAt
  dsimp only
  split <;> rfl

theorem reviseAt (p : PatIdx) : KeepsBus (reviseAt p) := by
  intro s
  unfold Machine.reviseAt
  split
  · rfl
  · split
    · rfl
    · split
      · rfl
      · split <;> rfl

theorem deleteAt (p : PatIdx) : KeepsBus (deleteAt p) := by
  intro s
  unfold Machine.deleteAt
  split <;> rfl

theorem enableAt (p : PatIdx) : KeepsBus (enableAt p) := by
  intro s
  unfold Machine.enableAt
  split <;> rfl

theorem disableAt (p : PatIdx) : KeepsBus (disableAt p) := by
  intro s
  unfold Machine.disableAt
  split
  · exact postOk.comp (work _) s
  all_goals rfl

theorem armAt (p : PatIdx) : KeepsBus (armAt p) := by
  intro s
  unfold Machine.armAt
  split <;> rfl

/-! ## The store and the loads -/

theorem commitWork : KeepsBus commitWork := by
  intro s
  unfold Machine.commitWork
  split <;> rfl

theorem restoreStoredWork : KeepsBus restoreStoredWork := by
  intro s
  unfold Machine.restoreStoredWork
  split <;> rfl

theorem eraseNext (l : List BankId) : KeepsBus fun s => s.eraseNext l := by
  intro s
  unfold State.eraseNext
  dsimp only
  split
  · rfl
  · split <;> rfl
  · split
    · rfl
    · split <;> rfl

theorem eraseStoredWork : KeepsBus eraseStoredWork := fun s =>
  eraseNext [s.store.eraseOrder.1, s.store.eraseOrder.2]
    (s.acceptLong (.erase s.store.eraseOrder.1 (some s.store.eraseOrder.2)))

theorem restoreEnd (x : Source) : KeepsBus (restoreEnd x) := by
  intro s
  unfold Machine.restoreEnd
  dsimp only
  obtain ⟨sc, e⟩ := State.startFromImage_frame (s.store.imageOf x) { s.applyImage (s.store.imageOf x) with
    port := offerAddress (s.store.imageOf x).globals.address (s.applyImage (s.store.imageOf x)).port
    store := { (s.applyImage (s.store.imageOf x)).store with source := x } }
  rw [e]
  exact offersAddress (s.store.imageOf x).globals.address s

/-- Every command of CMD but REINIT is work that keeps the port's place. -/
theorem command {i : Instr} {b : Byte} (hc : cmdCode i = some b) (hi : i.wf = true) (hr : i ≠ .reinit) :
    ∃ work, (∀ s, exec i s = .next (cmdByte b work s)) ∧ KeepsBus work := by
  cases i
  case badCommand c =>
    cases hc
    exact ⟨_, exec_badCommand ((Instr.wf_badCommand_iff b).1 hi), postResult .badCommand 0⟩
  case reinit => exact absurd rfl hr
  case readRecord => cases hc; exact ⟨_, fun _ => rfl, readRecordWork⟩
  case writeRecord => cases hc; exact ⟨_, fun _ => rfl, writeRecordWork⟩
  case beginPattern => cases hc; exact ⟨_, fun _ => rfl, onPattern beginAt⟩
  case appendStep => cases hc; exact ⟨_, fun _ => rfl, onBuild appendAt⟩
  case endPattern => cases hc; exact ⟨_, fun _ => rfl, onBuild endAt⟩
  case abandonPattern => cases hc; exact ⟨_, fun _ => rfl, onBuild (f := abandonAt) fun _ _ => rfl⟩
  case revisePattern => cases hc; exact ⟨_, fun _ => rfl, onPattern reviseAt⟩
  case deletePattern => cases hc; exact ⟨_, fun _ => rfl, onPattern deleteAt⟩
  case enablePattern => cases hc; exact ⟨_, fun _ => rfl, onPattern enableAt⟩
  case disablePattern => cases hc; exact ⟨_, fun _ => rfl, onPattern disableAt⟩
  case armPattern => cases hc; exact ⟨_, fun _ => rfl, onPattern armAt⟩
  case flushTrackers => cases hc; exact ⟨_, fun _ => rfl, postOk.comp (work flushWork)⟩
  case startScan => cases hc; exact ⟨_, fun _ => rfl, startScanWork⟩
  case stopScan => cases hc; exact ⟨_, fun _ => rfl, stopScanWork⟩
  case recalibrate => cases hc; exact ⟨_, fun _ => rfl, recalibrateWork⟩
  case clearQueue | restoreFactory => cases hc; exact ⟨_, fun _ => rfl, fun _ => rfl⟩
  case commit => cases hc; exact ⟨_, fun _ => rfl, commitWork⟩
  case restoreStored => cases hc; exact ⟨_, fun _ => rfl, restoreStoredWork⟩
  case eraseStored => cases hc; exact ⟨_, fun _ => rfl, eraseStoredWork⟩
  all_goals cases hc

/-- Every happening of the part's own blocks and of its store keeps the port's place. -/
theorem partEvent {i : Instr} (hi : i.isPartEvent = true) (s : State) :
    ∃ t, exec i s = .next t ∧ t.onBus = s.onBus := by
  cases i
  case timeBaseTick =>
    refine ⟨_, rfl, ?_⟩
    split <;> rfl
  case scanStart =>
    refine ⟨_, rfl, ?_⟩
    split
    · split <;> rfl
    · rfl
  case scanResult raw pop =>
    cases pop with
    | some p => cases hi
    | none =>
      refine ⟨_, rfl, ?_⟩
      split
      · next sc t _ _ =>
        split
        · exact work _ s
        · next c _ _ =>
          exact chanStep c (chanResult s.chanCfg[c] c raw.val t s.time s.chanLive[c])
            { s with scanner := { s.scanner with scan := sc.delivered } }
      · exact work _ s
  case dueTimeTaken pop =>
    cases pop with
    | some p => cases hi
    | none => exact ⟨_, rfl, work _ s⟩
  case pulseEnd o => exact ⟨_, rfl, rfl⟩
  case commitEraseEnd | commitProgramEnd | checkValueWordWritten | eraseSecondBankEnd =>
    refine ⟨_, rfl, ?_⟩
    split <;> rfl
  case commitVerifyEnd | commitSealEnd =>
    refine ⟨_, rfl, ?_⟩
    split
    · split <;> rfl
    · rfl
  case restoreLoadEnd =>
    refine ⟨_, rfl, ?_⟩
    split
    · exact restoreEnd _ s
    · rfl
  case eraseFirstBankEnd =>
    refine ⟨_, rfl, ?_⟩
    split
    · next i j _ => exact eraseNext [j] (s.blankBank i)
    · rfl
  all_goals cases hi

end KeepsBus

/-! ## The rows of a written byte (R145) -/

theorem writeRow_cases (a : RegAddr) (b : Byte) :
    (a = 0x04#6 ∧ writeRow a b = .flagsWrite b) ∨ (a = 0x05#6 ∧ writeRow a b = .attnMaskWrite b)
      ∨ (a = 0x0C#6 ∧ writeRow a b = cmdRow b) ∨ (a = 0x14#6 ∧ writeRow a b = .pop b)
      ∨ (a = 0x16#6 ∧ writeRow a b = .outLevelWrite b) ∨ (hasOwnRow a = false ∧ writeRow a b = .registerWrite b) := by
  have at_ {n : Nat} (h : a.toNat = n) (hn : n < 64) : a = BitVec.ofNat 6 n :=
    BitVec.eq_of_toNat_eq (h.trans (Nat.mod_eq_of_lt hn).symm)
  unfold writeRow
  split
  · next h => exact .inl ⟨at_ h (by decide), rfl⟩
  · next h => exact .inr (.inl ⟨at_ h (by decide), rfl⟩)
  · next h => exact .inr (.inr (.inl ⟨at_ h (by decide), rfl⟩))
  · next h => exact .inr (.inr (.inr (.inl ⟨at_ h (by decide), rfl⟩)))
  · next h => exact .inr (.inr (.inr (.inr (.inl ⟨at_ h (by decide), rfl⟩))))
  · next h4 h5 hc hp ho =>
    refine .inr (.inr (.inr (.inr (.inr ⟨?_, rfl⟩))))
    simp only [hasOwnRow, Bool.or_eq_false_iff, beq_eq_false_iff_ne, ne_eq, ← BitVec.toNat_inj]
    exact ⟨⟨⟨⟨h4, h5⟩, hc⟩, hp⟩, ho⟩

theorem cmdRow_reinit_iff (b : Byte) : cmdRow b = .reinit ↔ b = 0x4F#8 := by
  constructor
  · intro h
    have code := (cmdCode_cmdRow b).1
    rw [h] at code
    exact (Option.some.inj code).symm
  · rintro rfl
    rfl

/-- R145: a byte acknowledged at the register it is for, whose action keeps the port's place. -/
theorem onBus_acked {s t : State} {a : RegAddr} (hw : s.WritesAt a) (h : t.onBus = s.acked.onBus) :
    t.port.ack = true ∧ t.mode = .running ∧ t.port.bus = .writeData ∧ t.port.pointer = a + 1 := by
  obtain ⟨hm, hb, hp⟩ := hw
  simp only [State.onBus, Prod.mk.injEq] at h
  obtain ⟨mode, bus, pointer, ack, -⟩ := h
  exact ⟨ack, mode.trans hm, bus.trans hb, pointer.trans (congrArg (· + 1) hp)⟩

theorem storeByte_onBus (a : RegAddr) (b : Byte) : KeepsBus (storeByte a b) := by
  intro s
  unfold storeByte
  dsimp only
  split
  · rfl
  · split <;> rfl

theorem writeOutLevel_onBus (b : Byte) : KeepsBus (writeOutLevel b) := by
  intro s
  unfold writeOutLevel
  dsimp only
  split <;> rfl

theorem popWork_onBus (b : Byte) : KeepsBus (popWork b) := by
  intro s
  unfold popWork
  split <;> rfl

/-- Settles O29: a byte at each register is work that keeps the port's place, but for REINIT's. -/
theorem everyDataByteAdvancesThePointer : Obligations.EveryDataByteAdvancesThePointer := by
  intro s a b hw
  by_cases hr : a = 0x0C#6 ∧ b = 0x4F#8 ∧ s.engine.inFlight = none
  · simp only [if_pos hr]
    obtain ⟨rfl, rfl, hf⟩ := hr
    have run : exec (writeRow 0x0C#6 0x4F#8) s = .next (reinitWork (s.taken 0x4F)) :=
      congrArg Host.Outcome.next (cmdByte_takes (work := reinitWork) ⟨hw, hf⟩)
    exact ⟨_, run, rfl, rfl⟩
  · simp only [if_neg hr]
    have kept {act : State → State} {here : RegAddr → Bool} (ha : here a = true) (h : KeepsBus act) :
        ∃ t, (.next (writeByteIf here act s) : Host.Outcome State Fault Refusal) = .next t ∧ t.port.ack = true
          ∧ t.mode = .running ∧ t.port.bus = .writeData ∧ t.port.pointer = a + 1 := by
      rw [writeByteIf_hit hw ha]
      exact ⟨_, rfl, onBus_acked hw (h s.acked)⟩
    have own {act : State → State} (h : KeepsBus act) := kept (here := (· == a)) (beq_self_eq_true a) h
    rcases writeRow_cases a b with ⟨rfl, e⟩ | ⟨rfl, e⟩ | ⟨rfl, e⟩ | ⟨rfl, e⟩ | ⟨rfl, e⟩ | ⟨ha, e⟩ <;> rw [e]
    · exact own (act := fun v => { v with flags := clearFlags b v.flags }) fun _ => rfl
    · exact own (act := fun v => { v with attnMask := b.setWidth 7 }) fun _ => rfl
    · cases hf : s.engine.inFlight with
      | some x =>
        rw [exec_overrun ((Instr.isCmdByte_iff _).2 ⟨⟨b, (cmdCode_cmdRow b).1⟩, (cmdCode_cmdRow b).2⟩) hw
            (by rw [hf]; rfl)]
        exact ⟨_, rfl, onBus_acked hw rfl⟩
      | none =>
        have other : cmdRow b ≠ .reinit := fun h => hr ⟨rfl, (cmdRow_reinit_iff b).1 h, hf⟩
        obtain ⟨work, run, hk⟩ := KeepsBus.command (cmdCode_cmdRow b).1 (cmdCode_cmdRow b).2 other
        rw [run, cmdByte_takes ⟨hw, hf⟩]
        exact ⟨_, rfl, onBus_acked hw (hk (s.taken b))⟩
    · exact own (popWork_onBus b)
    · exact own (writeOutLevel_onBus b)
    · exact kept (here := fun a => !hasOwnRow a) (by rw [ha]; rfl) (storeByte_onBus s.port.pointer b)

/-- The part's own events, one after another. -/
theorem execAll_partEvents {events : List Instr} (h : ∀ i ∈ events, i.isPartEvent = true) (s : State) :
    ∃ t, execAll events s = .next t ∧ t.onBus = s.onBus := by
  induction events generalizing s with
  | nil => exact ⟨s, rfl, rfl⟩
  | cons i events ih =>
    obtain ⟨t, run, kept⟩ := KeepsBus.partEvent (h i List.mem_cons_self) s
    obtain ⟨u, rest, kept'⟩ := ih (fun j hj => h j (List.mem_cons_of_mem _ hj)) t
    refine ⟨u, ?_, kept'.trans kept⟩
    rw [execAll, run]
    exact rest

/-- Settles O33: no happening of the part's own touches the transaction (`execAll_partEvents`). -/
theorem snapshotBytesAreOfOneMoment : Obligations.SnapshotBytesAreOfOneMoment := by
  intro s events b rest he hm hb hs
  obtain ⟨t, run, kept⟩ := execAll_partEvents he s
  simp only [State.onBus, Prod.mk.injEq] at kept
  obtain ⟨mode, bus, pointer, -, snapshot⟩ := kept
  refine ⟨t, run, pointer, ?_⟩
  have more : t.port.bus = .readMore := bus.trans hb
  have here : t.present = true := by rw [State.present, mode.trans hm]; rfl
  have now : t.snapshotNow = some (b :: rest) := by
    rw [State.snapshotNow, more, if_neg nofun, snapshot.trans hs]
  have read : exec .readByteTransmitted t = .next t.transmit :=
    congrArg Host.Outcome.next (if_pos ⟨here, .inr more⟩)
  rw [read, State.transmit, State.dueByte, now, ← more]
  rfl

end Sys2Proof.Machine
end

section
/-! PROOF. O30, O31, O34, O36: the bytes and conditions of the bus (08_host_port_and_command_engine.md, sections 8.1 to
8.4; 07_report_queue_and_attention.md, sections 7.4 and 7.7 to 7.9). -/

namespace Sys2Proof.Machine

/-! ## Addresses, pointer and STOP (R144, R145, R147, R148) -/

theorem State.present_iff (s : State) : s.present = true ↔ s.mode = .running := beq_iff_eq

/-- R147: while the port is absent no written byte is acknowledged, whatever its row. -/
theorem exec_writeRow_absent {s : State} (a : RegAddr) (b : Byte) (h : s.mode ≠ .running) :
    exec (writeRow a b) s = .next (s.setAck false) := by
  rcases writeRow_cases a b with ⟨-, e⟩ | ⟨-, e⟩ | ⟨-, e⟩ | ⟨-, e⟩ | ⟨-, e⟩ | ⟨-, e⟩ <;> rw [e]
  case inr.inr.inl =>
    obtain ⟨work, run⟩ := exec_cmdByte (cmdCode_cmdRow b).1 (cmdCode_cmdRow b).2
    rw [run]
    exact congrArg Host.Outcome.next (writeByteIf_absent (here := (· == 0x0C#6)) (act := takeCommand b work) h)
  case inr.inr.inr.inl =>
      exact congrArg Host.Outcome.next (writeByteIf_absent (here := (· == 0x14#6)) (act := popWork b) h)
  all_goals exact congrArg Host.Outcome.next (writeByteIf_absent h)

/-- Settles O30: each byte and condition of the bus by presence and address. -/
theorem addressPointerAndStop : Obligations.AddressPointerAndStop := by
  refine ⟨fun s addr read i hi => ?_, fun s b hm hb => ?_, fun s a b hm => ⟨exec_writeRow_absent a b hm, ?_⟩,
    fun s hm hw => ?_, fun s addr hm hw => ?_⟩
  · have run : exec i s = .next (s.beginTransaction addr read) := by rcases hi with rfl | rfl <;> rfl
    rw [run]
    unfold State.beginTransaction
    refine ⟨fun hm ha => ?_, fun hm ha => ?_, fun hm => ?_⟩
    · rw [if_pos ((State.present_iff s).2 hm), if_pos ha]
    · rw [if_pos ((State.present_iff s).2 hm), if_neg ha]
    · rw [if_neg (mt (State.present_iff s).1 hm)]
      rfl
  · refine congrArg Host.Outcome.next ?_
    rw [(State.present_iff s).2 hm, hb]
    rfl
  · refine congrArg Host.Outcome.next ?_
    rw [Bool.eq_false_of_not_eq_true (mt (State.present_iff s).1 hm)]
    rfl
  · refine congrArg Host.Outcome.next ?_
    rw [if_pos ((State.present_iff s).2 hm), Port.takeWaiting, hw]
  · refine congrArg Host.Outcome.next ?_
    rw [if_pos ((State.present_iff s).2 hm), Port.takeWaiting, hw]

/-! ## Stored bytes (R155, R181) -/

theorem exec_registerWrite {s : State} {a : RegAddr} (b : Byte) (hw : s.WritesAt a) (ha : hasOwnRow a = false) :
    exec (.registerWrite b) s = .next (storeByte a b s.acked) := by
  have pointer : s.port.pointer = a := hw.2.2
  rw [← pointer]
  exact congrArg Host.Outcome.next (writeByteIf_hit (here := fun a => !hasOwnRow a) hw (by rw [ha]; rfl))

/-- Section 10.1: the addresses of the record buffer. -/
theorem bufAddress_toNat : ∀ k : Fin 16, (0x30#6 + BitVec.ofNat 6 k.val).toNat = 0x30 + k.val := by decide

theorem exists_bufAddress : ∀ a : RegAddr, 0x30 ≤ a.toNat → ∃ k : Fin 16, a = 0x30#6 + BitVec.ofNat 6 k.val := by decide

theorem storeByte_buf {a : RegAddr} (k : Fin 16) (h : a = 0x30#6 + BitVec.ofNat 6 k.val) (b : Byte) (s : State) :
    storeByte a b s = { s with engine := { s.engine with buf := s.engine.buf.set k b } } := by
  have place : a.toNat = 0x30 + k.val := by rw [h, bufAddress_toNat]
  have inside : 0x30 ≤ a.toNat ∧ a.toNat - 0x30 < 16 := by omega
  have same : k = ⟨a.toNat - 0x30, inside.2⟩ := Fin.ext (by dsimp only; omega)
  unfold storeByte
  rw [dif_pos inside, same]

theorem storeByte_ignored {a : RegAddr} (h1 : a ∉ [0x10#6, 0x11, 0x12]) (h2 : a.toNat < 0x30) (b : Byte) (s : State) :
    storeByte a b s = s := by
  have place {n : Nat} (h : a.toNat = n) (hn : n < 64) : a = BitVec.ofNat 6 n :=
    BitVec.eq_of_toNat_eq (h.trans (Nat.mod_eq_of_lt hn).symm)
  unfold storeByte
  rw [dif_neg (by omega)]
  split
  · next h _ => exact absurd (place h (by decide)) fun e => h1 (by simp [e])
  · next h _ => exact absurd (place h (by decide)) fun e => h1 (by simp [e])
  · next h _ => exact absurd (place h (by decide)) fun e => h1 (by simp [e])
  · rfl

theorem readReg_buf (s : State) (k : Fin 16) : s.readReg (0x30#6 + BitVec.ofNat 6 k.val) = s.engine.buf[k] := by
  unfold State.readReg
  dsimp only
  rw [bufAddress_toNat, if_pos (Nat.le_add_right ..), Nat.add_sub_cancel_left, byteAt, List.getD_eq_getElem?_getD]
  simp

/-- Settles O31: the registers that store, then those that ignore. -/
theorem registerWritesStoreOrIgnore : Obligations.RegisterWritesStoreOrIgnore := by
  intro s a b hw ha
  have run := exec_registerWrite b hw ha
  refine ⟨?_, ?_, ?_, fun k h => ?_, fun h1 h2 => ?_, fun t ht h => ?_⟩
  · rintro rfl
    exact run
  · rintro rfl
    exact run
  · rintro rfl
    exact run
  · rw [run, storeByte_buf k h]
    rfl
  · rw [run, storeByte_ignored h1 h2]
  · cases run.symm.trans ht
    by_cases h3 : 0x30 ≤ a.toNat
    · obtain ⟨k, place⟩ := exists_bufAddress a h3
      rw [storeByte_buf k place, place, readReg_buf, getElem_set_fin, if_pos rfl]
    · have low := h.resolve_right h3
      simp only [List.mem_cons, List.not_mem_nil, or_false] at low
      rcases low with rfl | rfl | rfl <;> rfl

/-! ## Flags, mask and ATN_N (R138 to R141) -/

theorem bitVec_ne_zero_iff {n : Nat} (x : BitVec n) : x ≠ 0 ↔ ∃ i : Fin n, x.getLsbD i.val = true := by
  constructor
  · intro h
    by_contra no
    refine h (BitVec.eq_of_getLsbD_eq fun i hi => ?_)
    rw [Bool.eq_false_of_not_eq_true fun hx => no ⟨⟨i, hi⟩, hx⟩]
    exact BitVec.getLsbD_zero.symm
  · rintro ⟨i, hi⟩ rfl
    exact absurd (BitVec.getLsbD_zero.symm.trans hi) nofun

/-- Settles O34: the two writes, and the attention condition bit by bit. -/
theorem flagsMaskAndAttentionLine : Obligations.FlagsMaskAndAttentionLine := by
  refine ⟨fun s b => ⟨fun hw => congrArg _ (writeByteAt_hit hw), fun hw => congrArg _ (writeByteAt_hit hw)⟩,
      fun s => ?_⟩
  have enabled : s.flags &&& s.attnMask.setWidth 6 ≠ 0 ↔
      ∃ i : Fin 6, s.flags.getLsbD i.val = true ∧ s.attnMask.getLsbD i.val = true := by
    rw [bitVec_ne_zero_iff]
    simp
  have ready : s.attnMask &&& queueReadyMask ≠ 0 ↔ s.attnMask.getLsbD 6 = true := by
    have all : ∀ x : BitVec 7, x &&& queueReadyMask ≠ 0 ↔ x.getLsbD 6 = true := by decide
    exact all _
  unfold State.atnAsserted attention
  simp only [Bool.and_eq_true, Bool.or_eq_true, beq_iff_eq, bne_iff_ne, enabled, ready, Bool.not_eq_true',
    List.isEmpty_eq_false_iff]

/-! ## Pops (R132 to R134) -/

theorem exec_pop {s : State} (b : Byte) (hw : s.WritesAt 0x14#6) : exec (.pop b) s = .next (popWork b s.acked) :=
  congrArg _ (writeByteAt_hit hw)

/-- R134: work with a pop between its pushes. -/
theorem State.workWith_between (v : State) (f : Env → Recog → Recog) : ∃ (t : State) (offers : List Record),
    t.report = v.report ∧ v.workWith none f = t.takeOffers offers
      ∧ ∀ (k : Nat) (b : Byte), ∃ u, exec (.pop b) (t.takeOffers (offers.take k)) = .next u
        ∧ v.workWith (some { after := k, byte := b }) f = u.takeOffers (offers.drop k) :=
  ⟨v.putRecog (f v.env v.recog), (f v.env v.recog).offers, rfl, rfl, fun _ _ => ⟨_, rfl, rfl⟩⟩

/-- Settles O36: a pop by the queue's head and LOST_COUNT, then one between the pushes of a happening. -/
theorem popsRemoveTheHeadAndInsertLost : Obligations.PopsRemoveTheHeadAndInsertLost := by
  constructor
  · intro s b hw
    rw [exec_pop b hw]
    unfold popWork
    refine ⟨fun hb => ?_, fun hb he => ?_, fun hb head rest hr => ⟨fun hl => ?_, fun hl => ?_⟩⟩
    · rw [if_neg (by rw [hb]; nofun)]
    · rw [if_pos hb, Report.pop, show s.acked.report.records = [] from he]
    · rw [if_pos hb, Report.pop, show s.acked.report.records = head :: rest from hr]
      dsimp only
      rw [if_pos (show s.acked.report.lost = 0 from hl), show s.acked.report.lost = 0 from hl]
    · rw [if_pos hb, Report.pop, show s.acked.report.records = head :: rest from hr]
      dsimp only
      rw [if_neg (show ¬ s.acked.report.lost = 0 from hl)]
      rfl
  · intro s i hi
    have of {v : State} {f : Env → Recog → Recog} (hv : v.report = s.report)
        (hw : ∀ pop, exec (i pop) s = .next (v.workWith pop f)) :
        ∃ (t : State) (offers : List Record), t.report = s.report ∧ exec (i none) s = .next (t.takeOffers offers)
          ∧ ∀ (k : Nat) (b : Byte), ∃ u, exec (.pop b) (t.takeOffers (offers.take k)) = .next u
            ∧ exec (i (some { after := k, byte := b })) s = .next (u.takeOffers (offers.drop k)) := by
      obtain ⟨t, offers, report, first, between⟩ := v.workWith_between f
      refine ⟨t, offers, report.trans hv, by rw [hw, first], fun k b => ?_⟩
      obtain ⟨u, popped, rest⟩ := between k b
      exact ⟨u, popped, by rw [hw, rest]⟩
    rcases hi with ⟨raw, rfl⟩ | rfl
    · cases hs : s.scanner.scan with
      | none =>
        refine of (v := s) (f := fun _ w => w) rfl fun pop => congrArg Host.Outcome.next ?_
        rw [hs]
      | some sc =>
        cases hl : s.scanner.lastScan with
        | none =>
          refine of (v := s) (f := fun _ w => w) rfl fun pop => congrArg Host.Outcome.next ?_
          rw [hs, hl]
        | some t =>
          cases hr : sc.left with
          | nil =>
            refine of (v := s) (f := fun _ w => w) rfl fun pop => congrArg Host.Outcome.next ?_
            rw [hs, hl]
            dsimp only
            rw [hr]
          | cons c rest =>
            refine of (v := State.setLive { s with scanner := { s.scanner with scan := sc.delivered } } c
                (chanResult s.chanCfg[c] c raw.val t s.time s.chanLive[c]).1)
              (f := handAll s.chanCfg[c].report c (chanResult s.chanCfg[c] c raw.val t s.time s.chanLive[c]).2) rfl
              fun pop => congrArg Host.Outcome.next ?_
            rw [hs, hl]
            dsimp only
            rw [hr]
            rfl
    · exact of (v := s) rfl fun pop => rfl

end Sys2Proof.Machine
end

section
/-! PROOF. O32: what a read returns (08_host_port_and_command_engine.md, sections 8.2 and 8.3;
10_register_and_record_formats.md, sections 10.2 and 10.5). -/

namespace Sys2Proof.Machine

/-! ## A byte of a read transaction (R146, R148) -/

theorem exec_readByteTransmitted {s : State} (hm : s.mode = .running)
    (hb : s.port.bus = .readFirst ∨ s.port.bus = .readMore) : exec .readByteTransmitted s = .next s.transmit :=
  congrArg Host.Outcome.next (if_pos ⟨(State.present_iff s).2 hm, hb⟩)

theorem State.snapshotAt_none {s : State} {a : RegAddr} (h : a ∉ [0x06#6, 0x08, 0x20]) : s.snapshotAt a = none := by
  have place {n : Nat} (h : a.toNat = n) (hn : n < 64) : a = BitVec.ofNat 6 n :=
    BitVec.eq_of_toNat_eq (h.trans (Nat.mod_eq_of_lt hn).symm)
  unfold State.snapshotAt
  split
  · next e => exact absurd (place e (by decide)) fun e => h (by simp [e])
  · next e => exact absurd (place e (by decide)) fun e => h (by simp [e])
  · next e => exact absurd (place e (by decide)) fun e => h (by simp [e])
  · rfl

/-- R146: a live byte, where no snapshot lasts. -/
theorem State.transmit_live {s : State} (h : s.snapshotNow = none ∨ s.snapshotNow = some [])
    (hs : s.snapshotNow = s.port.snapshot) : s.transmit = { s with port :=
      { s.port with sent := some (s.readReg s.port.pointer), pointer := s.port.pointer + 1, bus := .readMore } } := by
  have live : s.dueByte = s.readReg s.port.pointer := by
    unfold State.dueByte
    rcases h with h | h <;> rw [h]
  have same : s.snapshotNow.map List.tail = s.port.snapshot := by
    rw [← hs]
    rcases h with h | h <;> rw [h] <;> rfl
  rw [State.transmit, live, same]

/-- R148: the first byte of a snapshot. -/
theorem State.transmit_snapshot {s : State} {b : Byte} {rest : List Byte} (h : s.snapshotNow = some (b :: rest)) :
    s.transmit = { s with port := { s.port with
      sent := some b, snapshot := some rest, pointer := s.port.pointer + 1, bus := .readMore } } := by
  rw [State.transmit, State.dueByte, h]
  rfl

/-! ## The registers (section 10.2) -/

theorem runState_eq (s : State) {scan build : Nat} (hs : (∃ x, s.engine.inFlight = some (.restore x)) ∧ scan = 2
      ∨ (∀ x, s.engine.inFlight ≠ some (.restore x)) ∧ scan = if s.scanner.running then 1 else 0)
    (hb : build = (match s.build with
      | none => 0
      | some p => 128 + 4 * p.val)) : s.runState = BitVec.ofNat 8 (scan + build) := by
  have low : scan < 3 ∧ (if s.restoring = true then 2 else byteOfBool s.scanner.running) = BitVec.ofNat 8 scan := by
    rcases hs with ⟨h, rfl⟩ | ⟨h, rfl⟩
    · rw [if_pos ((State.restoring_iff s).2 h)]
      exact ⟨by decide, rfl⟩
    · have idle : s.restoring = false := Bool.eq_false_of_not_eq_true fun hr => by
        obtain ⟨x, hx⟩ := (State.restoring_iff s).1 hr
        exact h x hx
      rw [idle]
      cases s.scanner.running <;> exact ⟨by decide, rfl⟩
  have open_ : ∀ (k : Fin 3) (p : PatIdx), BitVec.ofNat 8 k.val ||| (0x80 ||| (byteOf p.val <<< 2)) =
      BitVec.ofNat 8 (k.val + (128 + 4 * p.val)) := by decide
  rw [State.runState, low.2]
  cases hp : s.build with
  | none =>
    rw [hp] at hb
    subst hb
    exact BitVec.or_zero
  | some p =>
    rw [hp] at hb
    subst hb
    exact open_ ⟨scan, low.1⟩ p

theorem storeState_eq (s : State) : s.storeState = BitVec.ofNat 8 ((if s.engine.inFlight = none then 0 else 1)
    + 4 * (match s.store.current with | none => 0 | some .a => 1 | some .b => 2)
    + 16 * (match s.store.source with | .factory => 0 | .bank .a => 1 | .bank .b => 2)) := by
  unfold State.storeState State.storeBusy
  generalize s.store.current = current
  generalize s.store.source = source
  have busy : (if s.engine.inFlight = none then 0 else 1) = if s.engine.inFlight.isSome = true then 1 else 0 := by
    cases s.engine.inFlight <;> rfl
  rw [busy]
  cases s.engine.inFlight.isSome <;> rcases current with _ | _ | _ <;> rcases source with _ | _ | _ <;> rfl

theorem trackersUsed_eq (s : State) :
    s.trackersUsed = (List.finRange 6).countP fun t => s.trackers[t] ≠ .free := by
  rw [State.trackersUsed, List.countP_eq_length_filter]
  refine congrArg List.length (List.filter_congr fun t _ => ?_)
  cases s.trackers[t] <;> rfl

theorem bytes32_eq (t : Time) : bytes32 t = leBytes 4 t.toNat := by
  simp only [bytes32, leBytes, List.range, List.range.loop, List.map, List.cons.injEq, and_true]
  refine ⟨?_, ?_, ?_, ?_⟩ <;> apply BitVec.eq_of_toNat_eq <;> simp [BitVec.toNat_ushiftRight, Nat.shiftRight_eq_div_pow]

/-- R148: HELD in two bytes. -/
theorem bytesOfChans_bytes (c : ChanSet) : bytesOfChans c = [c.setWidth 8, (c >>> 8).setWidth 8] := by
  rw [bytesOfChans_eq, leBytes_two]
  refine congrArg₂ (fun a b => [a, b]) (BitVec.ofNat_toNat ..) (BitVec.eq_of_toNat_eq ?_)
  simp [BitVec.toNat_ushiftRight, Nat.shiftRight_eq_div_pow]

/-- R149, R131: the registers from 00h to 07h. -/
theorem readReg_first (s : State) : [0x00#6, 0x01, 0x02, 0x03, 0x04, 0x05, 0x06, 0x07].map s.readReg =
    [idByte, revByte, s.resetCause.code, s.runState, s.flags.setWidth 8, s.attnMask.setWidth 8] ++
      bytesOfChans s.held := rfl

theorem readReg_time (s : State) : [0x08#6, 0x09, 0x0A, 0x0B].map s.readReg = bytes32 s.time := rfl

theorem readReg_engine (s : State) : [0x0C#6, 0x0D, 0x0E, 0x0F, 0x10, 0x11, 0x12].map s.readReg =
    [s.engine.cmd, s.engine.status.code, s.engine.result.code, s.engine.detail, s.engine.arg0, s.engine.arg1,
      s.engine.arg2] := rfl

theorem readReg_counts (s : State) : [0x13#6, 0x14, 0x15, 0x16, 0x18, 0x19, 0x1A].map s.readReg =
    [byteOf s.report.records.length, 0, byteOf s.report.lost, s.outLevel.setWidth 8, byteOf s.poolFree,
      byteOf s.trackersUsed, s.storeState] := rfl

/-- R146: unused registers. -/
theorem readReg_unused (s : State) : ∀ {a : RegAddr},
    (0x1B ≤ a.toNat ∧ a.toNat ≤ 0x1F ∨ 0x28 ≤ a.toNat ∧ a.toNat ≤ 0x2F) → s.readReg a = 0 := by
  intro a ha
  unfold State.readReg
  dsimp only
  rcases ha with ⟨h1, h2⟩ | ⟨h1, h2⟩
  · rw [if_neg (by omega), if_neg (by omega), if_neg (by omega)]
    split
    case h_28 => rfl
    all_goals omega
  · rw [if_neg (by omega), if_pos h1]

theorem queueAddress_toNat : ∀ k : Fin 8, (0x20#6 + BitVec.ofNat 6 k.val).toNat = 0x20 + k.val := by decide

theorem readReg_head (s : State) (k : Fin 8) :
    s.readReg (0x20#6 + BitVec.ofNat 6 k.val) = s.report.headBytes.getD k.val 0 := by
  have lt := k.isLt
  unfold State.readReg
  dsimp only
  rw [queueAddress_toNat, if_neg (by omega), if_neg (by omega), if_pos (Nat.le_add_right ..), Nat.add_sub_cancel_left]
  rfl

theorem ofNat_toNat_8 {n : Nat} (x : BitVec n) : BitVec.ofNat 8 x.toNat = x.setWidth 8 := BitVec.ofNat_toNat ..

theorem Record.bytes_ne_nil (r : Record) : r.bytes ≠ [] := by cases r <;> exact List.cons_ne_nil _ _

/-- Settles O32: the byte read, live or from the snapshot, then each register's reading and each record's bytes. -/
theorem readsReturnTheRegister : Obligations.ReadsReturnTheRegister := by
  refine ⟨fun s hm hb hs hp => ?_, fun s i whole hi hm hb hw => ?_, fun s scan build hs hb => ?_, rfl,
    fun p tag start stop deferred skipped => ?_, fun p tag n r time => ?_, rfl, fun p tag time => ?_,
    fun c note time dur => ?_, fun count time => ?_⟩
  · rw [exec_readByteTransmitted hm hb]
    refine congrArg _ ?_
    have now : s.snapshotNow = s.port.snapshot := by
      unfold State.snapshotNow
      split
      · next first =>
        rw [State.snapshotAt_none (hp first)]
        rcases hs with h | ⟨h, -⟩
        · exact h.symm
        · exact absurd (first.symm.trans h) nofun
      · rfl
    refine State.transmit_live ?_ now
    rw [now]
    exact hs.imp_right And.right
  · have at_ : s.snapshotAt s.port.pointer = some whole := by
      rcases hw with ⟨hp, rfl⟩ | ⟨hp, rfl⟩ | ⟨hp, rfl⟩ <;> rw [hp]
      · exact congrArg some (bytesOfChans_bytes s.held)
      · rfl
      · rfl
    have run : exec i s = .next s.transmit := by
      rcases hi with rfl | rfl
      · exact congrArg Host.Outcome.next (if_pos ⟨(State.present_iff s).2 hm, hb, by rw [at_]; rfl⟩)
      · exact exec_readByteTransmitted hm (.inl hb)
    have now : s.snapshotNow = some whole := (if_pos hb).trans at_
    have filled : whole ≠ [] := by
      rcases hw with ⟨-, rfl⟩ | ⟨-, rfl⟩ | ⟨-, rfl⟩
      · nofun
      · nofun
      · cases s.report.records with
        | nil => nofun
        | cons r l => exact Record.bytes_ne_nil r
    obtain ⟨b, rest, rfl⟩ := List.exists_cons_of_ne_nil filled
    rw [run, State.transmit_snapshot now]
    rfl
  · refine ⟨?_, ?_, ?_, ?_, fun a ha => readReg_unused s ha, fun k => ?_, readReg_buf s⟩
    · rw [readReg_first, runState_eq s hs hb, bytesOfChans_eq, leBytes_one, leBytes_one, leBytes_one, ofNat_toNat_8,
        ofNat_toNat_8]
      cases s.resetCause <;> rfl
    · rw [readReg_time, bytes32_eq]
    · rw [readReg_engine]
      cases s.engine.status <;> rfl
    · rw [readReg_counts, storeState_eq, trackersUsed_eq, leBytes_one, leBytes_one, leBytes_one, leBytes_one,
        leBytes_one, leBytes_one, ofNat_toNat_8]
      rfl
    · rw [readReg_head]
      unfold Report.headBytes
      cases s.report.records with
      | nil => exact (by decide : ∀ k : Fin 8, (List.replicate 8 (0#8)).getD k.val 0 = 0#8) k
      | cons r l => rfl
  · have flags : byteOfBool deferred ||| (byteOfBool skipped <<< 1) =
        BitVec.ofNat 8 ((if deferred then 1 else 0) + (if skipped then 2 else 0)) := by
      cases deferred <;> cases skipped <;> rfl
    simp only [Record.bytes, bytes16_eq, leBytes_one, flags]
    rfl
  · simp only [Record.bytes, bytes16_eq, leBytes_one]
    rfl
  · simp only [Record.bytes, bytes16_eq, leBytes_one]
    rfl
  · have codes : note.codes = (match note with
      | .press => [0x00#8, 0x00]
      | .release cause => [0x01#8, match cause with
          | .natural => 0x00#8 | .disabled => 0x01#8 | .fault => 0x02#8 | .stuck => 0x03#8
          | .halt => 0x04#8 | .recal => 0x05#8]
      | .stuck => [0x02#8, 0x03]
      | .fault reason => [0x03#8, match reason with
          | .none => 0x00#8 | .isOpen => 0x01#8 | .short => 0x02#8 | .drift => 0x03#8]) := by
      cases note with
      | press | stuck => rfl
      | release cause => cases cause <;> rfl
      | fault reason => cases reason <;> rfl
    rw [Record.bytes, codes, bytes16_eq, bytes16_eq, leBytes_one]
    rfl
  · simp only [Record.bytes, bytes16_eq, leBytes_one]
    rfl

end Sys2Proof.Machine
end

section
/-! PROOF. O56, O57, O60: COMMIT, the ends of its phases, and ERASE_STORED
(09_configuration_store_and_start_up.md, sections 9.1, 9.5 and 9.7). -/

namespace Sys2Proof.Machine

/-! ## COMMIT (R163, R170 to R172) -/

theorem newer_iff (x y : BitVec 16) : newer x y = true ↔ 1 ≤ (x - y).toNat ∧ (x - y).toNat ≤ 32767 := by
  simp only [newer, within, Bool.and_eq_true, decide_eq_true_eq]

/-- R163: the current bank by the states of the two. -/
theorem Store.current_table (st : Store) :
    (st.record.a.state = .valid → st.record.b.state ≠ .valid → st.current = some .a)
    ∧ (st.record.a.state ≠ .valid → st.record.b.state = .valid → st.current = some .b)
    ∧ (st.record.a.state ≠ .valid → st.record.b.state ≠ .valid → st.current = none)
    ∧ (st.record.a.state = .valid → st.record.b.state = .valid → st.current =
        if 1 ≤ (st.record.b.generation - st.record.a.generation).toNat
            ∧ (st.record.b.generation - st.record.a.generation).toNat ≤ 32767 then some .b
        else some .a) := by
  unfold Store.current
  simp only [newer_iff]
  cases st.record.a.state <;> cases st.record.b.state <;> simp

/-- R171: the target and the GENERATION of a commit. -/
theorem Store.commitTarget_table {st : Store} {t : BankId} {g : BitVec 16}
    (ha : st.current = some .a → t = .b ∧ g = st.record.a.generation + 1)
    (hb : st.current = some .b → t = .a ∧ g = st.record.b.generation + 1)
    (hn : st.current = none → t = .a ∧ g = 1) : st.commitTarget = (t, g) := by
  unfold Store.commitTarget
  rcases h : st.current with _ | _ | _
  · obtain ⟨rfl, rfl⟩ := hn h
    rfl
  · obtain ⟨rfl, rfl⟩ := ha h
    rfl
  · obtain ⟨rfl, rfl⟩ := hb h
    rfl

/-- R170: a pattern that is not EMPTY is recorded with its enable bit. -/
theorem patToImage_eq (d : PatDef) (st : PatState) : patToImage d st = if st = .empty then none
    else some { header := d.header, enabled := decide (st ∈ [PatState.ready, .active, .spent, .locked])
                steps := d.steps } := by
  cases st <;> rfl

theorem State.commitImage_eq (s : State) : s.commitImage =
    { globals := s.globals, attnMask := s.attnMask, chans := s.chanCfg, outs := s.outCfg
      pats := Vector.ofFn fun p : PatIdx => if s.patState[p] = PatState.empty then none
        else some { header := s.patDef[p].header
                    enabled := decide (s.patState[p] ∈ [PatState.ready, .active, .spent, .locked])
                    steps := s.patDef[p].steps } } := by
  simp only [State.commitImage, patToImage_eq]

theorem commitWork_open {s : State} {p : PatIdx} (h : s.build = some p) : commitWork s = s.postResult .buildOpen 0 := by
  rw [commitWork, h]
  rfl

theorem commitWork_begins {s : State} {t : BankId} {g : BitVec 16} (hb : s.build = none)
    (ht : s.store.commitTarget = (t, g)) : commitWork s =
      { s.acceptLong (.commit .erase t g s.commitImage) with
        store := s.store.setBank t (s.store.nv.get t).unformatted BankRec.damaged } := by
  unfold commitWork
  rw [hb, ht]
  rfl

/-- Settles O56: the current bank by the states of the two (`Store.current_table`), the target by the current bank
(`Store.commitTarget_table`). -/
theorem commitsTakeTheBankNotCurrent : Obligations.CommitsTakeTheBankNotCurrent := by
  refine ⟨fun st a b ha hb => ?_, fun s hs => ⟨fun p hp => ?_, fun hb t g image h1 h2 h3 hi => ?_⟩⟩
  · subst ha hb
    exact st.current_table
  · refine congrArg Host.Outcome.next ?_
    rw [cmdByte_takes hs]
    exact commitWork_open (s := s.taken 0x40) hp
  · rw [← s.commitImage_eq] at hi
    subst hi
    refine ⟨(s.store.nv.get t).unformatted, judge_unformatted _, congrArg Host.Outcome.next ?_⟩
    rw [cmdByte_takes hs]
    exact commitWork_begins (s := s.taken 0x40) hb (Store.commitTarget_table h1 h2 h3)

/-! ## The ends of the phases (R172, R173) -/

/-- R137, R150, R173: STORE_FAULT and CMD_DONE. -/
theorem raise_storeFault_cmdDone (f : BitVec 6) : raiseFlag .cmdDone (raiseFlag .storeFault f) = f ||| 0x21#6 := by
  simp only [raiseFlag, BitVec.or_assoc]
  rfl

theorem State.failCommit_eq (s : State) (t : BankId) : s.failCommit t = { s with
    store := { s.store with
      nv := s.store.nv.put t (s.store.nv.get t).unformatted
      record := s.store.record.put t { state := .damaged, generation := 0 } }
    engine := { s.engine with status := .error, result := .storeFailed, detail := 0, inFlight := none }
    flags := s.flags ||| 0x21#6 } := by
  rw [← raise_storeFault_cmdDone]
  rfl

/-- R172: one end of a phase at a commit in flight, by its phase. -/
theorem exec_commitEraseEnd {s : State} {ph : CommitPhase} {t : BankId} {g : BitVec 16} {i : Image}
    (h : s.engine.inFlight = some (.commit ph t g i)) : exec .commitEraseEnd s = .next (if ph = .erase then
      { s with
        engine := { s.engine with inFlight := some (.commit .program t g i) }
        store := { s.store with
          nv := s.store.nv.put t NvBank.blank.unformatted
          record := s.store.record.put t { state := .blank, generation := 0 } } }
      else s) := by
  refine congrArg Host.Outcome.next ?_
  rw [h]
  cases ph <;> rfl

theorem exec_commitProgramEnd {s : State} {ph : CommitPhase} {t : BankId} {g : BitVec 16} {i : Image}
    (h : s.engine.inFlight = some (.commit ph t g i)) : exec .commitProgramEnd s = .next (if ph = .program then
      { s with
        engine := { s.engine with inFlight := some (.commit .verify t g i) }
        store := { s.store with
          nv := s.store.nv.put t { erased := false, formatOk := true, generation := g, checkOk := false, body := i }
          record := s.store.record.put t { state := .damaged, generation := 0 } } }
      else s) := by
  refine congrArg Host.Outcome.next ?_
  rw [h]
  cases ph <;> rfl

theorem exec_commitVerifyEnd {s : State} {ph : CommitPhase} {t : BankId} {g : BitVec 16} {i : Image} (matched : Bool)
    (h : s.engine.inFlight = some (.commit ph t g i)) : exec (.commitVerifyEnd matched) s = .next (if ph = .verify then
      if matched then { s with engine := { s.engine with inFlight := some (.commit (.seal false) t g i) } }
      else s.failCommit t
      else s) := by
  refine congrArg Host.Outcome.next ?_
  rw [h]
  cases ph <;> rfl

theorem exec_checkValueWordWritten {s : State} {ph : CommitPhase} {t : BankId} {g : BitVec 16} {i : Image}
    (h : s.engine.inFlight = some (.commit ph t g i)) :
    exec .checkValueWordWritten s = .next (if ph = .seal false then
      { s with
        engine := { s.engine with inFlight := some (.commit (.seal true) t g i) }
        store := { s.store with
          nv := s.store.nv.put t { erased := false, formatOk := true, generation := g, checkOk := true, body := i } } }
      else s) := by
  refine congrArg Host.Outcome.next ?_
  rw [h]
  rcases ph with _ | _ | _ | _ | _ <;> rfl

theorem exec_commitSealEnd {s : State} {ph : CommitPhase} {t : BankId} {g : BitVec 16} {i : Image} (matched : Bool)
    (h : s.engine.inFlight = some (.commit ph t g i)) :
    exec (.commitSealEnd matched) s = .next (if ph ∈ [.seal false, .seal true] then
      if matched then { s with
        engine := { s.engine with status := .done, result := .ok, detail := 0, inFlight := none }
        flags := s.flags ||| 0x01#6
        store := { s.store with
          nv := s.store.nv.put t { erased := false, formatOk := true, generation := g, checkOk := true, body := i }
          record := s.store.record.put t { state := .valid, generation := g } } }
      else s.failCommit t
      else s) := by
  refine congrArg Host.Outcome.next ?_
  rw [h]
  rcases ph with _ | _ | _ | _ | _ <;> rfl

/-- Settles O57: each end of a phase at the phases of the commit in flight. -/
theorem commitPhasesEndInOrder : Obligations.CommitPhasesEndInOrder := by
  intro s ph t g i failed h hf
  have fails : failed (s.failCommit t) := (hf _).2 ⟨_, judge_unformatted _, s.failCommit_eq t⟩
  refine ⟨?_, exec_commitProgramEnd h, exec_commitVerifyEnd true h, ?_, exec_checkValueWordWritten h,
    exec_commitSealEnd true h, ?_⟩
  · rw [exec_commitEraseEnd h]
    split
    · exact ⟨_, judge_unformatted _, rfl⟩
    · rfl
  · rw [exec_commitVerifyEnd false h]
    split
    · exact ⟨_, rfl, fails⟩
    · rfl
  · rw [exec_commitSealEnd false h]
    split
    · exact ⟨_, rfl, fails⟩
    · rfl

/-! ## ERASE_STORED (R179) -/

theorem Store.eraseOrder_eq {st : Store} {x : BankId} (hb : st.current = some .a → x = .b)
    (ha : st.current ≠ some .a → x = .a) : st.eraseOrder = (x, x.other) := by
  unfold Store.eraseOrder
  rcases h : st.current with _ | _ | _
  · rw [ha (by rw [h]; nofun)]
    rfl
  · rw [hb h]
    rfl
  · rw [ha (by rw [h]; nofun)]
    rfl

/-- R179: the turns of the two banks in order. -/
theorem State.eraseNext_two (s : State) (x y : BankId) :
    ((s.store.record.get x).state = .blank → (s.store.record.get y).state = .blank → s.eraseNext [x, y] = s.postOk)
    ∧ ∀ (i : BankId) (f : Option BankId),
      ((s.store.record.get x).state ≠ .blank ∧ i = x ∧ f = some y
        ∨ (s.store.record.get x).state = .blank ∧ (s.store.record.get y).state ≠ .blank ∧ i = y ∧ f = none) →
      s.eraseNext [x, y] = s.beginErase i f := by
  refine ⟨fun hx hy => ?_, fun i f h => ?_⟩
  · rw [State.eraseNext, if_neg (not_not.2 hx), if_pos hy]
  · rcases h with ⟨hx, rfl, rfl⟩ | ⟨hx, hy, rfl, rfl⟩
    · rw [State.eraseNext, if_pos hx]
    · rw [State.eraseNext, if_neg (not_not.2 hx), if_neg hy]

theorem exec_eraseStored {s : State} {x : BankId} (hs : s.Takes) (hb : s.store.current = some .a → x = .b)
    (ha : s.store.current ≠ some .a → x = .a) :
    exec .eraseStored s = .next ((s.accepted 0x43 (.erase x (some x.other))).eraseNext [x, x.other]) := by
  refine congrArg Host.Outcome.next ?_
  rw [cmdByte_takes hs]
  unfold eraseStoredWork
  rw [show ({ s.acked with engine := { s.engine with cmd := 0x43 } } : State).store.eraseOrder = (x, x.other) from
    Store.eraseOrder_eq hb ha]
  rfl

theorem State.eraseNext_one (s : State) (j : BankId) :
    s.eraseNext [j] = if (s.store.record.get j).state = .blank then s.postOk else s.beginErase j none := rfl

theorem exec_eraseFirstBankEnd {s : State} {i j : BankId} (h : s.engine.inFlight = some (.erase i (some j))) :
    exec .eraseFirstBankEnd s = .next ((s.blankBank i).eraseNext [j]) := by
  refine congrArg Host.Outcome.next ?_
  rw [h]

theorem exec_eraseSecondBankEnd {s : State} {i : BankId} (h : s.engine.inFlight = some (.erase i none)) :
    exec .eraseSecondBankEnd s = .next (s.blankBank i).postOk := by
  refine congrArg Host.Outcome.next ?_
  rw [h]

/-- R179: the end of one bank's erase leaves the other as it was. -/
theorem Store.setBank_other (st : Store) {i j : BankId} (ne : i ≠ j) (n : NvBank) (r : BankRec) :
    (st.setBank i n r).nv.get j = st.nv.get j ∧ (st.setBank i n r).record.get j = st.record.get j := by
  simp only [Store.setBank, Banks.get_put, if_neg ne.symm, and_self]

theorem State.blankBank_other (s : State) {i j : BankId} (ne : i ≠ j) :
    (s.blankBank i).store.record.get j = s.store.record.get j := (s.store.setBank_other ne _ _).2

theorem State.beginErase_blankBank (s : State) {i j : BankId} (ne : i ≠ j) : (s.blankBank i).beginErase j none =
    { s with
      engine := { s.engine with inFlight := some (.erase j none) }
      store := { s.store with
        nv := (s.store.nv.put i NvBank.blank).put j (s.store.nv.get j).unformatted
        record := (s.store.record.put i { state := .blank, generation := 0 }).put j
          { state := .damaged, generation := 0 } } } := by
  rw [← (s.store.setBank_other ne NvBank.blank BankRec.blank).1]
  rfl

/-- Settles O60: the first turn from the take, then the end of each erase. -/
theorem eraseStoredBlanksBothBanks : Obligations.EraseStoredBlanksBothBanks := by
  refine ⟨fun s x y hs hy hb ha => ?_, fun s v i j h ne hv => ⟨fun hj => ?_, fun hj => ?_⟩, fun s i h => ?_⟩
  · subst hy
    rw [exec_eraseStored hs hb ha]
    obtain ⟨nothing, erases⟩ := (s.accepted 0x43 (.erase x (some x.other))).eraseNext_two x x.other
    refine ⟨fun hx hy => ?_, fun i f hi => ⟨(s.store.nv.get i).unformatted, judge_unformatted _, ?_⟩⟩
    · rw [nothing hx hy]
      rfl
    · rw [erases i f hi]
      rfl
  · subst hv
    rw [exec_eraseFirstBankEnd h, State.eraseNext_one, if_pos (by rwa [State.blankBank_other _ ne])]
    rfl
  · subst hv
    refine ⟨(s.store.nv.get j).unformatted, judge_unformatted _, ?_⟩
    rw [exec_eraseFirstBankEnd h, State.eraseNext_one, if_neg (by rwa [State.blankBank_other _ ne])]
    rw [State.beginErase_blankBank _ ne]
  · rw [exec_eraseSecondBankEnd h]
    rfl

end Sys2Proof.Machine
end

section
/-! PROOF. O54: resets and loss of power (09_configuration_store_and_start_up.md, sections 9.4, 9.5 and 9.7). -/

namespace Sys2Proof.Machine

/-! ## What a reset makes of the banks (R174, R180) -/

/-- R174, R180: the command in flight is erasing bank `k`. -/
def Erasing (c : Option LongCmd) (k : BankId) : Prop :=
  (∃ g x, c = some (.commit .erase k g x)) ∨ ∃ f, c = some (.erase k f)

theorem judge_cutErase (done : Bool) (n : NvBank) : (cutErase done n).judge = if done then .blank else .damaged := by
  cases done <;> rfl

theorem cutErase_put (done : Bool) (nv : Banks NvBank) (i k : BankId) :
    (i = k → ((nv.put i (cutErase done (nv.get i))).get k).judge = if done then .blank else .damaged)
    ∧ (i ≠ k → (nv.put i (cutErase done (nv.get i))).get k = nv.get k) := by
  refine ⟨?_, fun ne => by rw [Banks.get_put, if_neg ne.symm]⟩
  rintro rfl
  rw [Banks.get_put_same, judge_cutErase]

theorem cutStore_get (done : Bool) (c : Option LongCmd) (st : Store) (k : BankId) :
    (Erasing c k → ((cutStore done c st).nv.get k).judge = if done then .blank else .damaged)
    ∧ (¬ Erasing c k → (cutStore done c st).nv.get k = st.nv.get k) := by
  unfold cutStore
  split
  · next i g x =>
    obtain ⟨cut, kept⟩ := cutErase_put done st.nv i k
    refine ⟨fun h => cut ?_, fun h => kept fun e => h (.inl ⟨g, x, e ▸ rfl⟩)⟩
    rcases h with ⟨_, _, e⟩ | ⟨_, e⟩ <;> cases e
    rfl
  · next i f =>
    obtain ⟨cut, kept⟩ := cutErase_put done st.nv i k
    refine ⟨fun h => cut ?_, fun h => kept fun e => h (.inr ⟨f, e ▸ rfl⟩)⟩
    rcases h with ⟨_, _, e⟩ | ⟨_, e⟩ <;> cases e
    rfl
  · next commit erase =>
    refine ⟨fun h => ?_, fun _ => rfl⟩
    rcases h with ⟨g, x, e⟩ | ⟨f, e⟩
    · exact absurd e (commit k g x)
    · exact absurd e (erase k f)

theorem cutStore_eq (done : Bool) (c : Option LongCmd) (st : Store) :
    cutStore done c st = { st with nv := (cutStore done c st).nv } := by
  unfold cutStore
  split <;> rfl

theorem cutStore_none (done : Bool) (st : Store) : cutStore done none st = st := rfl

/-! ## The state of a part that went down (R167) -/

/-- R141, R114: of a part that is not running ATN_N is released, and an output that is OFF leaves its pin alone. -/
theorem State.atnAsserted_stopped {s : State} (h : s.mode ≠ .running) : s.atnAsserted = false := by
  simp [State.atnAsserted, h]

theorem State.goDown_pinDrive (s : State) (done : Bool) (m : Mode) (o : OutIdx) :
    (s.goDown done m).pinDrive o = .highZ := by
  have off : (s.goDown done m).outState[o] = .off := Vector.getElem_replicate ..
  unfold State.pinDrive
  rw [off]
  rfl

/-- R167: `goDown` with RST_N at `low` and the answer on SDA that the last byte left. -/
def State.wentDown (done : Bool) (m : Mode) (low ack : Bool) (s : State) : State :=
  { s.goDown done m with rstLow := low, port := { (s.goDown done m).port with ack := ack } }

theorem State.wentDown_pinDrive (s : State) (done : Bool) (m : Mode) (low ack : Bool) (o : OutIdx) :
    (s.wentDown done m low ack).pinDrive o = .highZ := s.goDown_pinDrive done m o

/-- R159: an accepted REINIT. -/
theorem exec_reinit {s : State} (hs : s.Takes) (done : Bool) :
    exec .reinit s = .next (s.wentDown done (.loading .reinit) s.rstLow true) := by
  refine congrArg Host.Outcome.next ?_
  rw [cmdByte_takes hs]
  unfold State.wentDown State.goDown
  rw [hs.2]
  show reinitWork (s.taken 0x4F) = _
  unfold reinitWork State.goDown
  rw [show (s.taken 0x4F).engine.inFlight = none from hs.2]
  rfl

theorem exec_rstNAssert_up {s : State} (done : Bool) (h : s.mode = .running ∨ ∃ x, s.mode = .loading x) :
    exec (.rstNAssert done) s = .next (s.wentDown done (.held false) true s.port.ack) := by
  refine congrArg Host.Outcome.next ?_
  rcases h with h | ⟨x, h⟩ <;> rw [h] <;> rfl

theorem exec_rstNAssert_down {s : State} (done : Bool) (h : s.mode = .unpowered ∨ ∃ x, s.mode = .held x) :
    exec (.rstNAssert done) s = .next { s with rstLow := true } := by
  refine congrArg Host.Outcome.next ?_
  rcases h with h | ⟨x, h⟩ <;> rw [h]

theorem exec_rstNRelease_held {s : State} {waits : Bool} (h : s.mode = .held waits) :
    exec .rstNRelease s = .next { s with rstLow := false, mode := .loading (if waits then .powerOn else .pin) } := by
  refine congrArg Host.Outcome.next ?_
  rw [h]

theorem exec_rstNRelease_free {s : State} (h : ∀ waits, s.mode ≠ .held waits) :
    exec .rstNRelease s = .next { s with rstLow := false } := by
  refine congrArg Host.Outcome.next ?_
  rcases hm : s.mode with _ | waits | _ | _
  · rfl
  · exact absurd hm (h waits)
  · rfl
  · rfl

/-- R167: every reset takes the part down, whatever it was doing. -/
theorem exec_goesDown {s : State} {done : Bool} {i : Instr} {m : Mode} {low : Bool}
    (h : i = .powerOn done ∧ m = (if s.rstLow then .held true else .loading .powerOn) ∧ low = s.rstLow
      ∨ i = .lossOfPower done ∧ m = .unpowered ∧ low = s.rstLow
      ∨ i = .rstNAssert done ∧ (s.mode = .running ∨ ∃ x, s.mode = .loading x) ∧ m = .held false ∧ low = true
      ∨ i = .reinit ∧ s.Takes ∧ m = .loading .reinit ∧ low = s.rstLow) :
    m ≠ .running ∧ ∃ ack, exec i s = .next (s.wentDown done m low ack) := by
  rcases h with ⟨rfl, rfl, rfl⟩ | ⟨rfl, rfl, rfl⟩ | ⟨rfl, up, rfl, rfl⟩ | ⟨rfl, takes, rfl, rfl⟩
  · exact ⟨by split <;> nofun, s.port.ack, rfl⟩
  · exact ⟨nofun, s.port.ack, rfl⟩
  · exact ⟨nofun, _, exec_rstNAssert_up done up⟩
  · exact ⟨nofun, _, exec_reinit takes done⟩

/-- Settles O54: every reset takes the part down (`exec_goesDown`), and the cut leaves the banks as `cutStore_get`
says. -/
theorem resetsAbandonTheWorkInFlight : Obligations.ResetsAbandonTheWorkInFlight := by
  refine ⟨fun s done i m low h => ?_, fun s done h => exec_rstNAssert_down done h,
    fun s => ⟨fun _ h => exec_rstNRelease_held h, exec_rstNRelease_free⟩⟩
  obtain ⟨notRunning, ack, run⟩ := exec_goesDown h
  refine ⟨_, run, State.atnAsserted_stopped notRunning, s.wentDown_pinDrive done m low ack, rfl, rfl,
    fun _ => Vector.getElem_replicate .., rfl, rfl, rfl, fun k erasing he => ?_, ?_⟩
  · obtain ⟨cut, kept⟩ := cutStore_get done s.engine.inFlight s.store k
    exact ⟨fun h => cut (he.1 h), fun h => kept fun e => h (he.2 e)⟩
  · have store := cutStore_eq done s.engine.inFlight s.store
    unfold State.wentDown State.goDown
    dsimp only
    rw [store]

end Sys2Proof.Machine
end

section
/-! PROOF. O55, O59, O3: start-up loads and restores (09_configuration_store_and_start_up.md, sections 9.4 and 9.6). -/

namespace Sys2Proof.Machine

/-! ## What every load sets (R168, R176) -/

theorem liveFromRecord_eq (atStart : Bool) (c : ChanCfg) : liveFromRecord atStart c =
    ChanLive.zero (if c.enable = false then .off else if atStart then .settling else .suspended) := by
  unfold liveFromRecord
  cases c.enable <;> rfl

/-- R36: the live records that an image gives the channels. -/
def imageLive (i : Image) : Vector ChanLive 12 :=
  Vector.ofFn fun c : Chan => ChanLive.zero (if i.chans[c].enable = false then ChanState.off
    else if i.globals.scanAtStart then ChanState.settling else ChanState.suspended)

/-- R10, R11: the scanner of a part that takes an image at time `t`. -/
def imageScanner (i : Image) (t : Time) : Scanner :=
  if i.globals.scanAtStart then
    { running := true, lastScan := some t, nextScan := some (t + BitVec.ofNat 32 i.globals.scanPeriod)
      scan := scanOf (measuredIn (imageLive i)) }
  else { running := false, lastScan := none, nextScan := none, scan := none }

theorem imageScanner_zero (i : Image) : imageScanner i 0 =
    if i.globals.scanAtStart then
      { running := true, lastScan := some 0, nextScan := some (BitVec.ofNat 32 i.globals.scanPeriod)
        scan := scanOf (measuredIn (imageLive i)) }
    else { running := false, lastScan := none, nextScan := none, scan := none } := by
  rw [imageScanner, zero_add]

/-- R10, R36, R60, R91, R125: the blocks at the end of a load. -/
theorem State.load_eq (i : Image) (s : State) : (s.applyImage i).startFromImage i = { s with
    scanner := imageScanner i s.time
    globals := i.globals, chanCfg := i.chans, chanLive := imageLive i
    patDef := Vector.ofFn fun p : PatIdx => defFromImage i.pats[p]
    patState := Vector.ofFn fun p : PatIdx => stateFromImage i.pats[p]
    poolFree := 96 - i.stepTotal
    build := none, held := 0, trackers := Vector.replicate 6 .free, outCfg := i.outs
    outState := Vector.ofFn fun o : OutIdx => if i.outs[o].enable = false then OutState.off
      else if i.outs[o].initialHigh then OutState.high else OutState.low } := by
  have live : (Vector.ofFn fun c : Chan => liveFromRecord i.globals.scanAtStart i.chans[c]) = imageLive i := by
    simp only [liveFromRecord_eq, imageLive]
  unfold State.startFromImage State.applyImage imageScanner
  simp only [live, outFromRecord_eq]
  split
  · next h =>
    rw [State.beginScan_eq, h]
    rfl
  · next h =>
    rw [Bool.of_not_eq_true h]
    rfl

/-! ## The end of a start-up load (R168) -/

theorem Store.startSource_eq (st : Store) : st.startSource = match st.current with
    | none => .factory
    | some i => .bank i := by
  unfold Store.startSource
  cases st.current <;> rfl

theorem Store.imageOf_eq (st : Store) (x : Source) : st.imageOf x = match x with
    | .factory => factoryImage
    | .bank .a => st.nv.a.body
    | .bank .b => st.nv.b.body := by
  rcases x with _ | _ | _ <;> rfl

/-- R162: the banks as they are examined. -/
theorem Store.examineAll_eq (st : Store) : st.examineAll = { st with
    record := { a := st.nv.a.examine, b := st.nv.b.examine }
    damagedAtStart := { a := decide (st.nv.a.judge = .damaged), b := decide (st.nv.b.judge = .damaged) } } := rfl

/-- R168: STORE_FAULT after a start-up load. -/
theorem startFlags_eq (a b : BankState) :
    (if decide (a = .damaged) || decide (b = .damaged) then raiseFlag .storeFault 0 else 0) =
      if a = .damaged ∨ b = .damaged then 0x20#6 else 0 := by
  simp only [Bool.or_eq_true, decide_eq_true_eq]
  rfl

/-- R168, steps 2 to 9, with the store of the load and its image given. -/
theorem State.startUp_eq (s : State) (cause : ResetCause) (low : Bool) {st : Store} {i : Image}
    (hst : st = { s.store.examineAll with source := s.store.examineAll.startSource }) (hi : i = st.imageOf st.source) :
    s.startUp cause low = ((State.applyImage i { s with
      store := st
      port := portAtStart low i.globals.address s.port
      time := 0
      resetCause := cause
      attnMask := i.attnMask
      report := { records := [], lost := 0 }
      outLevel := 0
      engine := Engine.reset
      flags := if s.store.nv.a.judge = .damaged ∨ s.store.nv.b.judge = .damaged then 0x20#6 else 0
      mode := .running }).startFromImage i) := by
  subst hst hi
  rw [← startFlags_eq]
  rfl

theorem exec_startUpLoadEnd {s : State} {cause : ResetCause} (h : s.mode = .loading cause) (low : Bool) :
    exec (.startUpLoadEnd low) s = .next (s.startUp cause low) := by
  refine congrArg Host.Outcome.next ?_
  rw [h]

theorem startUpLoad_eq (s : State) (cause : ResetCause) (low : Bool) (st : Store)
    (image : Image) (hm : s.mode = .loading cause)
    (hst : st = { s.store.examineAll with source := s.store.examineAll.startSource })
    (hi : image = st.imageOf st.source) :
    exec (.startUpLoadEnd low) s = .next
      { pending := s.pending, mode := .running, rstLow := s.rstLow, resetCause := cause, time := 0
        scanner := imageScanner image 0
        globals := image.globals, chanCfg := image.chans, chanLive := imageLive image
        patDef := Vector.ofFn fun p : PatIdx => defFromImage image.pats[p]
        patState := Vector.ofFn fun p : PatIdx => stateFromImage image.pats[p]
        poolFree := 96 - image.stepTotal
        build := none, held := 0, trackers := Vector.replicate 6 .free, outCfg := image.outs
        outState := Vector.ofFn fun o : OutIdx => if image.outs[o].enable = false then OutState.off
          else if image.outs[o].initialHigh then OutState.high else OutState.low
        outLevel := 0, report := { records := [], lost := 0 }
        flags := if s.store.nv.a.judge = .damaged ∨ s.store.nv.b.judge = .damaged then 0x20#6 else 0
        attnMask := image.attnMask
        engine := Engine.reset
        port := portAtStart low image.globals.address s.port
        store := st } := by
  rw [exec_startUpLoadEnd hm, s.startUp_eq cause low hst hi, State.load_eq]

/-- R166: what the factory image makes of the blocks. -/
theorem factory_live : imageLive factoryImage = Vector.replicate 12 (ChanLive.zero .settling) := by decide

theorem factory_scanner : imageScanner factoryImage 0 = State.reset.scanner := by decide

theorem factory_patDef : (Vector.ofFn fun p : PatIdx => defFromImage factoryImage.pats[p]) =
    Vector.replicate 24 PatDef.empty := by decide

theorem factory_patState : (Vector.ofFn fun p : PatIdx => stateFromImage factoryImage.pats[p]) =
    Vector.replicate 24 .empty := by decide

theorem factory_outState : (Vector.ofFn fun o : OutIdx => if factoryImage.outs[o].enable = false then OutState.off
    else if factoryImage.outs[o].initialHigh then OutState.high else OutState.low) =
      Vector.replicate 6 .off := by decide

theorem startUpLoad_newPart (s : State) (cause : ResetCause) (hm : s.mode = .loading cause)
    (hn : s.store.nv = { a := NvBank.blank, b := NvBank.blank }) :
    exec (.startUpLoadEnd false) s = .next { State.reset with
      pending := s.pending
      rstLow := s.rstLow
      resetCause := cause
      port := { State.reset.port with ack := s.port.ack, sent := s.port.sent } } := by
  have store : ({ s.store.examineAll with source := s.store.examineAll.startSource } : Store) = State.reset.store := by
    unfold Store.examineAll
    rw [hn]
    rfl
  rw [startUpLoad_eq s cause false State.reset.store factoryImage hm store.symm rfl]
  rw [hn, factory_scanner, factory_live, factory_patDef, factory_patState, factory_outState, factoryImage_stepTotal]
  rfl

/-- Settles O55: the load on any banks (`startUpLoad_eq`), and on those of a new part (`startUpLoad_newPart`). -/
theorem startUpLoadsApplyTheCurrentImage : Obligations.StartUpLoadsApplyTheCurrentImage := by
  refine ⟨fun s cause low st image live hm hst hi hl => ?_, fun s done hr hf hn => ?_⟩
  · subst hl
    have store : st = { s.store.examineAll with source := s.store.examineAll.startSource } := by
      rw [Store.startSource_eq]
      exact hst
    have source : image = st.imageOf st.source := by
      rw [Store.imageOf_eq]
      subst hst
      exact hi
    rw [startUpLoad_eq s cause low st image hm store source, imageScanner_zero]
    rfl
  · have up : exec (.powerOn done) s = .next (s.goDown done (.loading .powerOn)) := by
      refine congrArg Host.Outcome.next ?_
      rw [hr]
      rfl
    have banks : (s.goDown done (.loading .powerOn)).store.nv = { a := NvBank.blank, b := NvBank.blank } := by
      rw [← hn]
      exact congrArg Store.nv (congrArg (cutStore done · s.store) hf)
    rw [execAll, up]
    dsimp only
    rw [execAll, startUpLoad_newPart _ .powerOn rfl banks]
    dsimp only
    rw [execAll, show (s.goDown done (.loading .powerOn)).rstLow = false from hr]
    rfl

end Sys2Proof.Machine
end

section
/-! PROOF. O59, O3: restores (09_configuration_store_and_start_up.md, section 9.6), and the laws at reset. -/

namespace Sys2Proof.Machine

/-! ## The take of a restore (R175) -/

theorem patAtRestore_eq (st : PatState) : patAtRestore st =
    if st = .building then .empty else if st = .active then .ready else st := by
  cases st <;> rfl

theorem outAtRestore_eq (o : OutState) : outAtRestore o = if o.active = true then .high else o := by
  cases o <;> rfl

theorem restoreTake_eq (x : Source) (s : State) : restoreTake x s = State.acceptLong { s with
    scanner := { running := false, lastScan := none, nextScan := none, scan := none }
    trackers := Vector.replicate 6 .free
    held := 0
    chanLive := Vector.ofFn fun c : Chan => s.chanLive[c].cleared .off
    patDef := Vector.ofFn fun p : PatIdx => if s.patState[p] = PatState.building then PatDef.empty else s.patDef[p]
    patState := Vector.ofFn fun p : PatIdx => if s.patState[p] = PatState.building then PatState.empty
      else if s.patState[p] = PatState.active then PatState.ready else s.patState[p]
    poolFree := s.poolFree + ((List.finRange 24).map fun p : PatIdx =>
      if s.patState[p] = PatState.building then s.patDef[p].steps.length else 0).sum
    build := none
    outState := Vector.ofFn fun o : OutIdx =>
      if s.outState[o].active = true then OutState.high else s.outState[o] } (.restore x) := by
  unfold restoreTake
  simp only [patAtRestore_eq, outAtRestore_eq]
  rfl

theorem restoreStoredWork_none {s : State} (h : s.store.current = none) :
    restoreStoredWork s = s.postResult .noImage 0 := by
  unfold restoreStoredWork
  rw [h]

theorem restoreStoredWork_some {s : State} {k : BankId} (h : s.store.current = some k) :
    restoreStoredWork s = restoreTake (.bank k) s := by
  unfold restoreStoredWork
  rw [h]

/-- R175, R178: an accepted restore takes the part down to its source's load. -/
theorem exec_restore {s : State} {i : Instr} {code : Byte} {x : Source} (hs : s.Takes)
    (h : i = .restoreFactory ∧ code = 0x42#8 ∧ x = .factory
      ∨ ∃ k, s.store.current = some k ∧ i = .restoreStored ∧ code = 0x41#8 ∧ x = .bank k) :
    exec i s = .next (restoreTake x (s.taken code)) := by
  rcases h with ⟨rfl, rfl, rfl⟩ | ⟨k, hk, rfl, rfl, rfl⟩
  · exact congrArg Host.Outcome.next (cmdByte_takes hs)
  · exact congrArg Host.Outcome.next
      ((cmdByte_takes hs).trans (restoreStoredWork_some (s := s.taken 0x41) hk))

/-! ## The end of a restore load (R176) -/

theorem offerAddress_eq (address : BusAddr) (p : Port) : offerAddress address p =
    if p.strap then p else { p with waiting := if address = p.inUse then none else some address } := rfl

theorem restoreEnd_eq (x : Source) (s : State) {i : Image} (hi : i = s.store.imageOf x) : restoreEnd x s = { s with
    scanner := imageScanner i s.time
    globals := i.globals, chanCfg := i.chans, chanLive := imageLive i
    patDef := Vector.ofFn fun p : PatIdx => defFromImage i.pats[p]
    patState := Vector.ofFn fun p : PatIdx => stateFromImage i.pats[p]
    poolFree := 96 - i.stepTotal
    build := none, held := 0, trackers := Vector.replicate 6 .free, outCfg := i.outs
    outState := Vector.ofFn fun o : OutIdx => if i.outs[o].enable = false then OutState.off
      else if i.outs[o].initialHigh then OutState.high else OutState.low
    flags := s.flags ||| 0x01#6
    attnMask := i.attnMask
    engine := { s.engine with status := .done, result := .ok, detail := 0, inFlight := none }
    port := offerAddress i.globals.address s.port
    store := { s.store with source := x } } := by
  subst hi
  unfold restoreEnd
  have load := State.load_eq (s.store.imageOf x) { s with
    port := offerAddress (s.store.imageOf x).globals.address s.port
    store := { s.store with source := x } }
  refine (congrArg (fun v : State => State.postOk { v with attnMask := (s.store.imageOf x).attnMask }) load).trans ?_
  rfl

theorem exec_restoreLoadEnd {s : State} {x : Source} (h : s.engine.inFlight = some (.restore x)) :
    exec .restoreLoadEnd s = .next (restoreEnd x s) := by
  refine congrArg Host.Outcome.next ?_
  rw [h]

theorem exec_restoreLoadEnd_idle {s : State} (h : ∀ x, s.engine.inFlight ≠ some (.restore x)) :
    exec .restoreLoadEnd s = .next s := by
  refine congrArg Host.Outcome.next ?_
  split
  · next x e => exact absurd e (h x)
  · rfl

/-- Settles O59: the take (`restoreTake_eq`) and the end of the load (`restoreEnd_eq`). -/
theorem restoresReplaceTheConfiguration : Obligations.RestoresReplaceTheConfiguration := by
  refine ⟨fun s hs => ⟨fun hn => ?_, fun i code x h => ?_⟩, fun s x image live hf hi hl => ?_,
    fun s h => exec_restoreLoadEnd_idle h⟩
  · exact congrArg Host.Outcome.next ((cmdByte_takes hs).trans (restoreStoredWork_none (s := s.taken 0x41) hn))
  · rw [exec_restore hs h, restoreTake_eq]
    rfl
  · subst hl
    rw [exec_restoreLoadEnd hf, restoreEnd_eq x s (hi.trans (s.store.imageOf_eq x).symm)]
    rfl

/-! ## Reset -/

theorem reset_report_law : State.reset.report.Law := by decide

theorem reset_engineOk : State.reset.EngineOk := by decide

theorem reset_heldOk : State.reset.HeldOk := by decide

theorem reset_scannerOk : State.reset.ScannerOk := by decide

theorem reset_liveOk : State.reset.LiveOk := by decide

theorem reset_outputsOk : State.reset.OutputsOk := by decide

theorem reset_bindingsOk : State.reset.BindingsOk := by decide

theorem reset_poolOk : State.reset.PoolOk := by decide

theorem reset_configOk : State.reset.ConfigOk := by decide

theorem reset_pendingOk : State.reset.PendingOk := by decide

theorem reset_storeOk : State.reset.StoreOk := by decide

/-- Settles O3: the reset state is one closed state, at which each law is evaluated. -/
theorem resetMeetsEveryLaw : Obligations.ResetMeetsEveryLaw :=
  ⟨reset_report_law, reset_engineOk, reset_heldOk, reset_scannerOk, reset_liveOk, reset_outputsOk, reset_bindingsOk,
    reset_poolOk, reset_configOk, reset_pendingOk, reset_storeOk⟩

end Sys2Proof.Machine
end

section
/-! PROOF. O58: a commit that is cut off (09_configuration_store_and_start_up.md, sections 9.4 and 9.5). First what the
cut leaves in the two banks, then what the load finds there, then the load itself. -/

namespace Sys2Proof.Machine

/-! ## What the cut leaves in the banks (R174) -/

theorem cutStore_commit (done : Bool) (ph : CommitPhase) (t : BankId) (g : BitVec 16) (i : Image) (st : Store) :
    cutStore done (some (.commit ph t g i)) st =
      if ph = .erase then { st with nv := st.nv.put t (cutErase done (st.nv.get t)) } else st := by
  cases ph <;> rfl

/-- R174: the target of a commit after the cut: VALID with the new image from the check value word on, BLANK where a
finished erase was cut off, DAMAGED otherwise. -/
def CommitPhase.FoundAs (ph : CommitPhase) (done : Bool) (g : BitVec 16) (i : Image) (n : NvBank) : Prop :=
  if ph = .seal true then n = NvBank.sealed g i
  else n.judge = if ph = .erase ∧ done = true then .blank else .damaged

theorem CommitPhase.Left.foundAs {ph : CommitPhase} {g : BitVec 16} {i : Image} {n : NvBank} {r : BankRec}
    (h : ph.Left g i n r) (done : Bool) :
    ph.FoundAs done g i (if ph = .erase then cutErase done n else n) := by
  unfold CommitPhase.FoundAs
  rcases ph with _ | _ | _ | _ | _
  · simpa using judge_cutErase done n
  · simpa using h.1
  · simp [h.1]; rfl
  · simp [h.1]; rfl
  · simp [h.1]

/-- R162, R174: the banks after a commit was cut off: the target as its phase left it, the other bank untouched, as
its record says. -/
structure CutCommit (st w : Store) (ph : CommitPhase) (done : Bool) (t : BankId) (g : BitVec 16) (i : Image) :
    Prop where
  target : ph.FoundAs done g i (w.nv.get t)
  other : w.nv.get t.other = st.nv.get t.other
  recorded : (w.nv.get t.other).examine = st.record.get t.other
  generation : st.Targets t g

theorem State.cutCommit {s : State} {ph : CommitPhase} {t : BankId} {g : BitVec 16} {i : Image} (hm : s.mode = .running)
    (ok : s.StoreOk) (hf : s.engine.inFlight = some (.commit ph t g i)) (done : Bool) :
    CutCommit s.store (cutStore done s.engine.inFlight s.store) ph done t g i := by
  obtain ⟨records, stands⟩ := s.storeOk_iff.1 ok hm
  rw [State.commitStands, hf] at stands
  obtain ⟨left, targets⟩ := (Store.commitStands_iff ..).1 stands
  have recorded : s.store.record.get t.other = (s.store.nv.get t.other).examine := by
    refine records t.other fun e => ?_
    rw [Engine.bankWritten, hf] at e
    exact t.other_ne (Option.some.inj e).symm
  have other : (cutStore done s.engine.inFlight s.store).nv.get t.other = s.store.nv.get t.other := by
    rw [hf, cutStore_commit]
    split
    · exact (Banks.get_put ..).trans (if_neg t.other_ne)
    · rfl
  have target : (cutStore done s.engine.inFlight s.store).nv.get t =
      if ph = .erase then cutErase done (s.store.nv.get t) else s.store.nv.get t := by
    rw [hf, cutStore_commit]
    split
    · exact Banks.get_put_same ..
    · rfl
  exact ⟨target ▸ left.foundAs done, other, by rw [other, recorded], targets⟩

/-! ## What the load finds (R162, R163) -/

theorem Store.examineAll_get (w : Store) (k : BankId) : w.examineAll.record.get k = (w.nv.get k).examine
    ∧ w.examineAll.damagedAtStart.get k = decide ((w.nv.get k).judge = .damaged) := by
  cases k <;> exact ⟨rfl, rfl⟩

/-- R163: the current bank where bank `t` is not VALID. -/
theorem Store.current_of_not_valid {st : Store} {t : BankId} (h : (st.record.get t).state ≠ .valid) :
    st.current = if (st.record.get t.other).state = .valid then some t.other else none := by
  obtain ⟨-, onlyB, neither, -⟩ := st.current_table
  obtain ⟨onlyA, -⟩ := st.current_table
  cases t
  · split
    · next o => exact onlyB h o
    · next o => exact neither h o
  · split
    · next o => exact onlyA o h
    · next o => exact neither o h

/-- R163: the current bank where bank `t` is VALID and no older than the other by GENERATION. -/
theorem Store.current_of_valid {st : Store} {t : BankId} (h : (st.record.get t).state = .valid)
    (newest : (st.record.get t.other).state = .valid →
      (st.record.get t).generation = (st.record.get t.other).generation + 1) : st.current = some t := by
  obtain ⟨onlyA, onlyB, -, both⟩ := st.current_table
  by_cases o : (st.record.get t.other).state = .valid
  · have next := newest o
    cases t
    · have next : st.record.a.generation = st.record.b.generation + 1 := next
      rw [both h o, if_neg (by rw [next]; bv_omega)]
    · have next : st.record.b.generation = st.record.a.generation + 1 := next
      rw [both o h, if_pos (by rw [next]; bv_omega)]
  · cases t
    · exact onlyA h o
    · exact onlyB o h

namespace CutCommit

variable {st w : Store} {ph : CommitPhase} {done : Bool} {t : BankId} {g : BitVec 16} {i : Image}

theorem judge (c : CutCommit st w ph done t g i) : (w.nv.get t).judge =
    if ph = .seal true then .valid else if ph = .erase ∧ done = true then .blank else .damaged := by
  have found := c.target
  unfold CommitPhase.FoundAs at found
  split
  · next h => rw [if_pos h] at found; rw [found]; rfl
  · next h => rwa [if_neg h] at found

theorem judge_valid (c : CutCommit st w ph done t g i) : (w.nv.get t).judge = .valid ↔ ph = .seal true := by
  rw [c.judge]
  split
  · next h => exact iff_of_true rfl h
  · next h => exact iff_of_false (by split <;> nofun) h

theorem judge_damaged (c : CutCommit st w ph done t g i) :
    (w.nv.get t).judge = .damaged ↔ ph ≠ .seal true ∧ ¬ (ph = .erase ∧ done = true) := by
  rw [c.judge]
  split
  · next h => exact iff_of_false nofun fun e => e.1 h
  · next h =>
    split
    · next e => exact iff_of_false nofun fun x => x.2 e
    · next e => exact iff_of_true rfl ⟨h, e⟩

theorem sealed (c : CutCommit st w ph done t g i) (h : ph = .seal true) : w.nv.get t = NvBank.sealed g i := by
  have found := c.target
  rwa [CommitPhase.FoundAs, if_pos h] at found

theorem generation_found (c : CutCommit st w ph done t g i) :
    (w.examineAll.record.get t).generation = if ph = .seal true then g else 0 := by
  rw [(w.examineAll_get t).1]
  split
  · next h => rw [c.sealed h]; rfl
  · next h => exact if_neg fun e => h (c.judge_valid.1 e)

theorem other_found (c : CutCommit st w ph done t g i) : w.examineAll.record.get t.other = st.record.get t.other :=
  (w.examineAll_get _).1.trans c.recorded

/-- R163, R171: the bank that is current after the cut. -/
theorem current (c : CutCommit st w ph done t g i) : w.examineAll.current = if ph = .seal true then some t
    else if (st.record.get t.other).state = .valid then some t.other else none := by
  have state : (w.examineAll.record.get t).state = (w.nv.get t).judge := congrArg BankRec.state (w.examineAll_get t).1
  split
  · next h =>
    refine Store.current_of_valid (state.trans (c.judge_valid.2 h)) fun o => ?_
    rw [c.generation_found, if_pos h, c.other_found]
    rw [c.other_found] at o
    have gen := c.generation
    rwa [Store.Targets, if_pos o] at gen
  · next h =>
    rw [Store.current_of_not_valid (fun e => h (c.judge_valid.1 (state.symm.trans e))), c.other_found]

theorem source (c : CutCommit st w ph done t g i) : w.examineAll.startSource = if ph = .seal true then .bank t
    else if (st.record.get t.other).state = .valid then .bank t.other else .factory := by
  rw [Store.startSource_eq, c.current]
  by_cases h : ph = .seal true
  · rw [if_pos h, if_pos h]
  · rw [if_neg h, if_neg h]
    by_cases o : (st.record.get t.other).state = .valid
    · rw [if_pos o, if_pos o]
    · rw [if_neg o, if_neg o]

theorem image (c : CutCommit st w ph done t g i) : w.examineAll.imageOf w.examineAll.startSource =
    if ph = .seal true then i
    else if (st.record.get t.other).state = .valid then (st.nv.get t.other).body else factoryImage := by
  rw [c.source]
  split
  · next h => exact congrArg NvBank.body (c.sealed h)
  · split
    · exact congrArg NvBank.body c.other
    · rfl

end CutCommit

/-! ## The part that comes up next (R167, R168) -/

/-- R167, R174: a running part that loses its supply or is reset, and comes up again, ends a start-up load on the
banks that the cut left. -/
theorem execAll_cut {s u : State} {done again low : Bool} {cut : List Instr} (hm : s.mode = .running)
    (hr : s.rstLow = false)
    (hcut : cut = [.lossOfPower done, .powerOn again, .startUpLoadEnd low]
      ∨ cut = [.rstNAssert done, .rstNRelease, .startUpLoadEnd low]) (hu : execAll cut s = .next u) :
    ∃ (v : State) (cause : ResetCause),
      v.store = cutStore done s.engine.inFlight s.store ∧ u = v.startUp cause low := by
  rcases hcut with rfl | rfl
  · have up : exec (.powerOn again) (s.goDown done .unpowered) =
        .next ((s.goDown done .unpowered).goDown again (.loading .powerOn)) := by
      refine congrArg Host.Outcome.next ?_
      rw [show (s.goDown done .unpowered).rstLow = false from hr]
      rfl
    rw [execAll, show exec (.lossOfPower done) s = .next (s.goDown done .unpowered) from rfl] at hu
    dsimp only at hu
    rw [execAll, up] at hu
    dsimp only at hu
    rw [execAll, exec_startUpLoadEnd rfl] at hu
    exact ⟨_, _, rfl, (Host.Outcome.next.inj hu).symm⟩
  · rw [execAll, exec_rstNAssert_up done (.inl hm)] at hu
    dsimp only at hu
    rw [execAll, exec_rstNRelease_held (waits := false) rfl] at hu
    dsimp only at hu
    rw [execAll, exec_startUpLoadEnd (cause := .pin) rfl] at hu
    exact ⟨_, _, rfl, (Host.Outcome.next.inj hu).symm⟩

theorem startUp_applies (v : State) (cause : ResetCause) (low : Bool) {image : Image}
    (hi : image = v.store.examineAll.imageOf v.store.examineAll.startSource) : ∃ u, u = v.startUp cause low ∧
    u.mode = .running ∧ u.globals = image.globals ∧ u.chanCfg = image.chans ∧ u.outCfg = image.outs
      ∧ u.attnMask = image.attnMask
      ∧ (∀ p : PatIdx, u.patDef[p] = defFromImage image.pats[p] ∧ u.patState[p] = stateFromImage image.pats[p])
      ∧ u.store = { v.store.examineAll with source := v.store.examineAll.startSource }
      ∧ u.flags = if v.store.nv.a.judge = .damaged ∨ v.store.nv.b.judge = .damaged then 0x20#6 else 0 := by
  refine ⟨_, (State.startUp_eq v cause low rfl hi).symm, ?_⟩
  rw [State.load_eq]
  refine ⟨rfl, rfl, rfl, rfl, rfl, fun p => ⟨?_, ?_⟩, rfl, rfl⟩
  · exact getElem_ofFn_fin ..
  · exact getElem_ofFn_fin ..

/-- Settles O58: the load that follows the cut (`execAll_cut`) finds the banks as `CutCommit` says. -/
theorem interruptedCommitsKeepAnImage : Obligations.InterruptedCommitsKeepAnImage := by
  intro s u ph t g i image done again low cut hm hr ok hf hcut hu hi
  obtain ⟨v, cause, store, rfl⟩ := execAll_cut hm hr hcut hu
  have c : CutCommit s.store v.store ph done t g i := store ▸ s.cutCommit hm ok hf done
  obtain ⟨u, rfl, mode, globals, chans, outs, mask, pats, ust, flags⟩ :=
    startUp_applies v cause low (hi.trans c.image.symm)
  refine ⟨mode, globals, chans, outs, mask, fun p => ⟨fun q hq => ?_, fun hq => ?_⟩, ?_, ?_, ?_, ?_, ?_, fun h => ?_⟩
  · rw [(pats p).1, hq]
    exact ⟨rfl, rfl⟩
  · rw [(pats p).2, hq]
    rfl
  · rw [ust]
    exact c.source
  · rw [ust]
    exact c.current
  · rw [ust]
    exact c.generation_found
  · rw [ust]
    exact c.other
  · rw [ust]
    exact (v.store.examineAll_get t).2.trans (decide_eq_decide.2 c.judge_damaged)
  · rw [ust] at h
    have damaged := of_decide_eq_true ((v.store.examineAll_get t).2.symm.trans h)
    rw [flags, if_pos]
    · rfl
    · cases t
      · exact .inl damaged
      · exact .inr damaged

end Sys2Proof.Machine
end

section
/-! PROOF. O52: starts (04_trackers_and_step_matching.md, sections 4.3 and 4.9, and
05_priority_claims_and_deferred_completion.md, section 5.7). First a start where no tracker is in use, then the turns of
stage 5, then a start where every slot is in use. -/

namespace Sys2Proof.Machine

/-! ## A start where no tracker is in use (R66, R67) -/

/-- R67, R80, R89: a tracker alone goes on, completes or ends. -/
theorem settle_alone {e : Env} {i : SlotIdx} {p : PatIdx} {r : Progress} {w : Recog} (hp : r.record.pattern = p)
    (free : ∀ u : SlotIdx, u ≠ i → w.trackers[u] = .free) : settle e i r w = aloneAfter e i p r w := by
  have moved (y : Waiting) : (w.trackers.set i (.waiting y))[i] = .waiting y := by rw [getElem_set_fin, if_pos rfl]
  cases r with
  | stay y => rfl
  | candidate y te => exact resolve_alone (x := y) (moved y) (set_free_others free)
  | abort y reason time =>
    have bound : (w.setTracker i (.waiting y)).trackers[i].pattern = some p := by
      rw [Recog.setTracker_trackers, moved, ← hp]
      rfl
    unfold settle
    dsimp only
    rw [endTracker_alone bound (fun u z hu hz => ?_), abortRecord_bound bound]
    · simp only [Recog.setTracker_trackers, moved, Vector.set_set]
      rfl
    · rw [Recog.setTracker_trackers, set_free_others free u hu] at hz
      cases hz

/-- What the slot held before does not count. -/
theorem aloneAfter_setTracker (e : Env) (i : SlotIdx) (p : PatIdx) (r : Progress) (w : Recog) (x : Tracker) :
    aloneAfter e i p r { w with trackers := w.trackers.set i x } = aloneAfter e i p r w := by
  cases r <;> simp only [aloneAfter, Vector.set_set]

theorem startIn_alone {e : Env} {i : SlotIdx} {p : PatIdx} {time : Time} {w : Recog}
    (free : ∀ u : SlotIdx, u ≠ i → w.trackers[u] = .free) : startIn e p time i w =
      aloneAfter e i p (startProgress e.defs[p] w.held p time) { w with pstate := w.pstate.set p .active } := by
  have pattern : (startProgress e.defs[p] w.held p time).record.pattern = p :=
    (startProgress_moves e.defs[p] w.held p time).pattern
  refine (settle_alone pattern (set_free_others free)).trans ?_
  exact aloneAfter_setTracker e i p _ { w with pstate := w.pstate.set p .active } _

/-- R66, condition 3. -/
theorem offered_readyEnded {e : Env} {c : Chan} {w : Recog} (h : w.ReadyEnded) (p : PatIdx) :
    ¬ offered e c p w = true := by
  intro ho
  simp only [offered, Bool.and_eq_true, beq_iff_eq, Bool.not_eq_true'] at ho
  obtain ⟨⟨⟨hr, -⟩, hn⟩, -⟩ := ho
  rw [h p hr] at hn
  cases hn

theorem aloneAfter_readyEnded {e : Env} {i : SlotIdx} {p : PatIdx} {r : Progress} {w : Recog} (h : w.ReadyEnded) :
    (aloneAfter e i p r w).ReadyEnded := by
  cases r with
  | stay y => exact h
  | candidate y te => exact (readyEnded_closed e).complete 6 i te false te _ h
  | abort y reason time => exact h.ends rfl rfl

/-- R66: the conditions of an offer. -/
theorem offered_iff {e : Env} {c : Chan} {p : PatIdx} {w : Recog} : offered e c p w = true ↔
    w.pstate[p] = .ready ∧ (∃ x ∈ e.defs[p].steps.head?, hasChan x.channels c = true) ∧ hasPat w.ended p = false
      ∧ e.defs[p].univ &&& w.claimed = 0 := by
  have first : (match (e.pat p).steps with
      | [] => false
      | x :: _ => hasChan x.channels c) = true ↔ ∃ x ∈ e.defs[p].steps.head?, hasChan x.channels c = true := by
    unfold Env.pat
    cases e.defs[p].steps <;> simp
  have away : claimedAway e p w = false ↔ e.defs[p].univ &&& w.claimed = 0 := by
    simp [claimedAway, overlaps, Env.pat]
  unfold offered
  simp only [Bool.and_eq_true, Bool.not_eq_true', beq_iff_eq, away, and_assoc]
  exact and_congr_right fun _ => and_congr_left fun _ => first

theorem freeSlot_allFree {trackers : Vector Tracker 6} (h : ∀ u : SlotIdx, trackers[u] = .free) :
    freeSlot trackers = some 0 := by
  have first : trackers[(0 : SlotIdx)].isFree = true := by rw [h 0]; rfl
  unfold freeSlot
  rw [show allSlots = 0 :: allSlots.tail from rfl]
  exact List.find?_cons_of_pos (p := fun t : SlotIdx => trackers[t].isFree) first

/-- R66, R90: stage 5 where one pattern is READY and no tracker is in use. -/
theorem stage5_one {e : Env} {ev : Event} {w : Recog} {p : PatIdx} (press : ev.press = true)
    (free : ∀ u : SlotIdx, w.trackers[u] = .free) (takes : offered e ev.chan p w = true)
    (others : ∀ q : PatIdx, q ≠ p → w.pstate[q] ≠ .ready) :
    stage5 e ev w = aloneAfter e 0 p (startProgress e.defs[p] w.held p ev.time)
      { w with pstate := w.pstate.set p .active } := by
  have start : takeStart e p ev.time w = aloneAfter e 0 p (startProgress e.defs[p] w.held p ev.time)
      { w with pstate := w.pstate.set p .active } := by
    unfold takeStart
    rw [freeSlot_allFree free]
    exact startIn_alone fun u _ => free u
  have started : (takeStart e p ev.time w).ReadyEnded := by
    rw [start]
    refine aloneAfter_readyEnded fun q hq => ?_
    dsimp only at hq
    rw [getElem_set_fin] at hq
    split at hq
    · cases hq
    · next hne => exact absurd hq (others q fun e => hne e.symm)
  obtain ⟨l, m, order⟩ := List.append_of_mem (e.mem_patOrder p)
  have before (l : List PatIdx) (hl : ∀ q ∈ l, q ≠ p) :
      l.foldl (fun v q => if offered e ev.chan q v = true then takeStart e q ev.time v else v) w = w := by
    induction l with
    | nil => rfl
    | cons q l ih =>
      have here : ¬ offered e ev.chan q w = true := fun h => others q (hl q List.mem_cons_self) (offered_iff.1 h).1
      rw [List.foldl_cons, if_neg here, ih fun r hr => hl r (List.mem_cons_of_mem _ hr)]
  have notBefore (q : PatIdx) (hq : q ∈ l) : q ≠ p := by
    rintro rfl
    have sorted : (l ++ q :: m).Pairwise e.RanksBefore := order ▸ e.patOrder_pairwise
    have self := (List.pairwise_append.1 sorted).2.2 q hq q List.mem_cons_self
    exact e.ranksBefore_asymm self self
  unfold stage5
  rw [if_pos press, order, List.foldl_append, before l notBefore, List.foldl_cons, if_pos takes,
    foldl_same _ _ _ fun q => if_neg (offered_readyEnded started q), start]

/-- R87 to R90: a PRESS where one pattern is READY and no tracker is in use. -/
theorem matchEvent_starts {e : Env} {ev : Event} {w v : Recog} {p : PatIdx} (press : ev.press = true)
    (free : ∀ u : SlotIdx, w.trackers[u] = .free) (ready : w.pstate[p] = .ready)
    (others : ∀ q : PatIdx, q ≠ p → w.pstate[q] ≠ .ready)
    (first : ∃ x ∈ e.defs[p].steps.head?, hasChan x.channels ev.chan = true)
    (hv : v = { w with ended := 0, claimed := 0, held := w.held ||| chanBit ev.chan }) :
    matchEvent e ev w = aloneAfter e 0 p (startProgress e.defs[p] v.held p ev.time)
      { v with pstate := v.pstate.set p .active } := by
  have one : stage1 e ev { w with ended := 0, claimed := 0 } = { w with ended := 0, claimed := 0 } :=
    takeDues_none _ _ _ _ (nextDue_noTracker e ev.time _ free)
  have two : stage2 e ev { w with ended := 0, claimed := 0 } = v := by
    rw [hv]
    unfold stage2
    rw [if_pos press]
  have free' (u : SlotIdx) : v.trackers[u] = .free := by rw [hv]; exact free u
  have three := stage3_noTracker e ev v free'
  unfold matchEvent
  dsimp only
  rw [one, two, three, stage4_nil]
  refine stage5_one press free' (offered_iff.2 ⟨?_, first, ?_, ?_⟩) ?_ <;> subst hv
  · exact ready
  · exact (by decide : ∀ q : PatIdx, hasPat 0 q = false) p
  · exact BitVec.and_zero
  · exact others

/-! ## A record offered before a completion (R94) -/

/-- The changeable state with records offered before its own, and the flags that they leave. -/
def Recog.after (l : List Record) (flags : BitVec 6) (w : Recog) : Recog :=
  { w with offers := l ++ w.offers, flags := flags }

theorem Recog.acted_after (e : Env) (t : SlotIdx) (p : PatIdx) (te : Time) (deferred : Bool) (time : Time)
    (l : List Record) (flags : BitVec 6) (w : Recog) :
    (w.after l flags).acted e t p te deferred time = (w.acted e t p te deferred time).after l flags := by
  have offered (b : Bool) (r : Record) : (w.after l flags).offerIf b r = (w.offerIf b r).after l flags := by
    cases b
    · rfl
    · simp only [Recog.offerIf, Recog.offer, Recog.after, if_true, List.append_assoc]
  have act (a : Option Action) (v : Recog) : actOpt e a (v.after l flags) = (actOpt e a v).after l flags := by
    cases a with
    | none => rfl
    | some a =>
      by_cases skip : actionSkipped e.outCfg[a.out] v.outs[a.out] a v.held = true
      · exact (if_pos skip).trans (congrArg (Recog.after l flags) (if_pos skip).symm)
      · refine (if_neg skip).trans ?_
        rw [actOpt, Recog.act, if_neg skip]
        rfl
  unfold Recog.acted
  rw [← act, ← offered]
  rfl

/-- R94, R98: the completion of the only tracker in use. -/
theorem complete_alone {e : Env} {t : SlotIdx} {p : PatIdx} {te : Time} {deferred : Bool} {time : Time} {w : Recog}
    (hp : w.trackers[t].pattern = some p) (free : ∀ u : SlotIdx, u ≠ t → w.trackers[u] = .free) :
    complete e 6 t te deferred time w = { completeSlot e t p te deferred time w with
      claimed := if (e.pat p).header.claim = true then w.claimed ||| (e.pat p).univ else w.claimed } := by
  have after (u : SlotIdx) : (w.trackers.set t .free)[u] = .free := by
    by_cases hu : t = u
    · rw [getElem_set_fin, if_pos hu]
    · rw [getElem_set_fin, if_neg hu, free u fun h => hu h.symm]
  have group : claimGroup e t p w = [] := by
    unfold claimGroup overlapping
    split
    · exact List.filter_eq_nil_iff.2 fun u _ => by rw [after u]; exact Bool.false_ne_true
    · rfl
  have freed (u : SlotIdx) : (completionEnds e t p te deferred time w).2.trackers[u] = .free := by
    rw [completionEnds_trackers]
    split
    · rfl
    · next h => exact free u fun hu => h (.inl hu)
  refine (complete_eq hp).trans ?_
  rw [releaseBy_noPending fun u y => by rw [freed u]; nofun, completionEnds_eq, group, ← cancelGroup_eq List.nodup_nil]
  rfl

theorem complete_after {e : Env} {t : SlotIdx} {p : PatIdx} {te : Time} {deferred : Bool} {time : Time} {w : Recog}
    (hp : w.trackers[t].pattern = some p) (free : ∀ u : SlotIdx, u ≠ t → w.trackers[u] = .free) (l : List Record)
    (flags : BitVec 6) : complete e 6 t te deferred time (w.after l flags) =
      (complete e 6 t te deferred time w).after l flags := by
  rw [complete_alone (w := w.after l flags) hp free, complete_alone hp free, completeSlot_eq, completeSlot_eq,
    Recog.acted_after]
  rfl

/-- R130: a record that goes to the queue first, whatever the completion offers after it. -/
theorem State.work_completeAfter {s : State} {f : Env → Recog → Recog} {report : Bool} {r : Record} {t : SlotIdx}
    {p : PatIdx} {te : Time} {held : ChanSet} {pstate : Vector PatState 24} {trackers : Vector Tracker 6}
    (hp : trackers[t].pattern = some p) (free : ∀ u : SlotIdx, u ≠ t → trackers[u] = .free)
    (hf : f s.env s.recog = complete s.env 6 t te false te
      { (if report = true then s.recog.offer r else s.recog) with
        held := held, pstate := pstate, trackers := trackers }) :
    s.work f = { s.queued report r with held := held, patState := pstate, trackers := trackers }.work fun e w =>
      complete e 6 t te false te w := by
  have first := complete_after (e := s.env) (te := te) (deferred := false) (time := te)
    (w := { s.recog with held := held, pstate := pstate, trackers := trackers }) hp free
  generalize complete s.env 6 t te false te { s.recog with held := held, pstate := pstate, trackers := trackers } = done
    at first
  have left : f s.env s.recog = done.after (if report = true then s.recog.offer r else s.recog).offers s.flags := by
    rw [← first, hf]
    cases report <;> rfl
  have right : complete s.env 6 t te false te { s.recog with
      held := held, pstate := pstate, trackers := trackers, flags := (s.queued report r).flags } =
      done.after [] (s.queued report r).flags := by
    rw [← first]
    rfl
  refine (State.work_offered report r left rfl rfl).trans
    (Eq.trans ?_ (State.work_eq (w := done.after [] (s.queued report r).flags) ?_).symm)
  · rw [State.queued_eq_push]
    cases report <;> rfl
  · rw [← right, State.queued_eq_push]
    cases report <;> rfl

/-! ## The part (R27, R62, R67) -/

section

variable {s : State} {ev : Event} {report : Bool} {r : Record} {p : PatIdx} {held : ChanSet} {g : Progress}

theorem matchEvent_pressStarts (press : ev.press = true) (free : s.NoTracker) (ready : s.patState[p] = .ready)
    (others : ∀ q : PatIdx, q ≠ p → s.patState[q] ≠ .ready)
    (first : ∃ x ∈ s.patDef[p].steps.head?, hasChan x.channels ev.chan = true)
    (hh : held = s.held ||| 1#12 <<< ev.chan.val) (hg : g = startProgress s.patDef[p] held p ev.time) :
    matchEvent s.env ev (if report = true then s.recog.offer r else s.recog) = aloneAfter s.env 0 p g
      { (if report = true then s.recog.offer r else s.recog) with
        held := held, pstate := s.patState.set p .active } := by
  rw [Recog.offered_eq]
  subst hg hh
  exact matchEvent_starts (e := s.env) (w := { s.recog with offers := _ })
    (v := { s.recog with offers := _, held := s.held ||| 1#12 <<< ev.chan.val }) press free ready others first rfl

/-- R62, R66, R67: what a PRESS that starts a pattern makes of the part. -/
theorem State.work_pressStarts (press : ev.press = true) (free : s.NoTracker) (ready : s.patState[p] = .ready)
    (others : ∀ q : PatIdx, q ≠ p → s.patState[q] ≠ .ready)
    (first : ∃ x ∈ s.patDef[p].steps.head?, hasChan x.channels ev.chan = true)
    (hh : held = s.held ||| 1#12 <<< ev.chan.val) (hg : g = startProgress s.patDef[p] held p ev.time) :
    (∀ y, g = .stay y → (s.work fun e w => matchEvent e ev (if report = true then w.offer r else w)) =
      { s.queued report r with
        held := held, patState := s.patState.set p .active, trackers := s.trackers.set (0 : SlotIdx) (.waiting y) })
    ∧ (∀ y reason time, g = .abort y reason time →
      (s.work fun e w => matchEvent e ev (if report = true then w.offer r else w)) =
        { s.queued report r with held := held }.queued s.patDef[p].header.reportAbort
          (.aborted p s.patDef[p].header.tag y.step reason (time.setWidth 16)))
    ∧ ∀ y te, g = .candidate y te →
      (s.work fun e w => matchEvent e ev (if report = true then w.offer r else w)) =
        { s.queued report r with
          held := held, patState := s.patState.set p .active
          trackers := s.trackers.set (0 : SlotIdx) (.waiting y) }.work fun e w => complete e 6 0 te false te w := by
  have event := matchEvent_pressStarts (report := report) (r := r) press free ready others first hh hg
  refine ⟨fun y hy => ?_, fun y reason time hy => ?_, fun y te hy => ?_⟩ <;> rw [hy] at event
  · refine (State.work_offered report r (l := []) event ?_ ?_).trans ?_
    · cases report <;> rfl
    · exact (List.append_nil _).symm
    · rw [State.queued_eq_push]
      cases report <;> rfl
  · have slots : s.trackers.set (0 : SlotIdx) Tracker.free = s.trackers := by
      rw [← free 0]
      exact Vector.set_getElem_self ..
    have states : (s.patState.set p .active).set p .ready = s.patState := by
      rw [Vector.set_set, ← ready]
      exact Vector.set_getElem_self ..
    have target : ({ s.queued report r with held := held } : State) = { s.queued report r with
        held := held, trackers := s.trackers.set (0 : SlotIdx) .free
        patState := (s.patState.set p .active).set p .ready } := by
      rw [slots, states, State.queued_eq_push]
      cases report <;> rfl
    refine (State.work_offered report r event ?_ rfl).trans ?_
    · cases report <;> rfl
    · rw [target, State.takeOffers_if, State.queued_eq_push s]
      cases report <;> rfl
  · have pattern : (startProgress s.patDef[p] held p ev.time).record.pattern = p :=
      (startProgress_moves s.patDef[p] held p ev.time).pattern
    rw [← hg, hy] at pattern
    refine State.work_completeAfter (p := p) ?_ (set_free_others fun u _ => free u) (event.trans ?_)
    · rw [getElem_set_fin, if_pos rfl, ← pattern]
      rfl
    · cases report <;> rfl

end

end Sys2Proof.Machine
end

section
/-! PROOF. O52, the rest: step 0 of a start, the turns of stage 5, and a start where every slot is in use
(04_trackers_and_step_matching.md, sections 4.3 and 4.9; 05_priority_claims_and_deferred_completion.md, section 5.7). -/

namespace Sys2Proof.Machine

/-! ## Step 0 (R67) -/

section

variable {d : PatDef} {held : ChanSet} {p : PatIdx} {t : Time} {x : Step} {more : List Step}

theorem startProgress_tap (hd : d.steps = x :: more) (hk : x.kind = .tap) : startProgress d held p t =
    .stay { newWaiting d p t with tapPress := some t, stepDue := some (.long, spanEnd x t) } := by
  unfold startProgress
  rw [hd]
  dsimp only
  rw [hk]

theorem startProgress_chord (hd : d.steps = x :: more) (hk : x.kind = .chord) : startProgress d held p t =
    if x.channels &&& held = x.channels then
      advance d held t { newWaiting d p t with collected := x.channels &&& held, chordStart := some t }
    else .stay { newWaiting d p t with
      collected := x.channels &&& held, chordStart := some t, stepDue := some (.split, spanEnd x t) } := by
  unfold startProgress
  rw [hd]
  dsimp only
  rw [hk]

end

/-! ## The turns of stage 5 (R66, R90) -/

/-- All patterns in priority-then-index order are in one order only. -/
theorem Env.patOrder_unique {e : Env} {order : List PatIdx} (all : ∀ p, p ∈ order)
    (sorted : order.Pairwise e.RanksBefore) : order = e.patOrder := by
  have nodup {l : List PatIdx} (h : l.Pairwise e.RanksBefore) : l.Nodup :=
    h.imp fun {p q} hpq (same : p = q) => e.ranksBefore_asymm hpq (same ▸ hpq)
  have perm : order.Perm e.patOrder := (List.perm_ext_iff_of_nodup (nodup sorted) (nodup e.patOrder_pairwise)).2
    fun p => iff_of_true (all p) (e.mem_patOrder p)
  exact perm.eq_of_pairwise (fun p q _ _ h h' => absurd h' (e.ranksBefore_asymm h)) sorted e.patOrder_pairwise

theorem stage5_turns {e : Env} {ev : Event} {w : Recog} {order : List PatIdx} (press : ev.press = true)
    (all : ∀ p, p ∈ order) (sorted : order.Pairwise e.RanksBefore) : stage5 e ev w = order.foldl (fun v p =>
      if v.pstate[p] = .ready ∧ (∃ x ∈ e.defs[p].steps.head?, hasChan x.channels ev.chan = true)
        ∧ hasPat v.ended p = false ∧ e.defs[p].univ &&& v.claimed = 0
      then takeStart e p ev.time v else v) w := by
  rw [Env.patOrder_unique all sorted]
  unfold stage5
  rw [if_pos press]
  exact List.foldl_ext _ _ _ fun v p _ => if_congr offered_iff rfl rfl

/-! ## A start where every slot is in use (R64, R105 to R107) -/

theorem freeSlot_none {trackers : Vector Tracker 6} (h : ∀ u : SlotIdx, trackers[u] ≠ .free) :
    freeSlot trackers = none := by
  refine List.find?_eq_none.2 fun u _ hu => h u ?_
  cases hx : trackers[u] with
  | free => rfl
  | waiting x => rw [hx] at hu; cases hu
  | pending x => rw [hx] at hu; cases hu

/-- R64: the one slot that an eviction freed. -/
theorem freeSlot_evicted {trackers : Vector Tracker 6} (v : SlotIdx) (h : ∀ u : SlotIdx, trackers[u] ≠ .free) :
    freeSlot (trackers.set v .free) = some v := by
  cases hf : freeSlot (trackers.set v .free) with
  | none =>
    have here := List.find?_eq_none.1 hf v (List.mem_finRange v)
    rw [getElem_set_fin, if_pos rfl] at here
    exact absurd rfl here
  | some u =>
    have free := freeSlot_free hf
    rw [getElem_set_fin] at free
    split at free
    · next same => rw [same]
    · exact absurd free (h u)

theorem takeStart_refused {e : Env} {p : PatIdx} {time : Time} {w : Recog} (full : ∀ u : SlotIdx, w.trackers[u] ≠ .free)
    (none : victim e e.defs[p].header.priority w.trackers = none) : takeStart e p time w = refuseStart e p time w := by
  unfold takeStart
  rw [freeSlot_none full]
  dsimp only
  rw [show victim e (e.prio p) w.trackers = Option.none from none]

theorem takeStart_evicts {e : Env} {p q : PatIdx} {time : Time} {w : Recog} {v : SlotIdx}
    (full : ∀ u : SlotIdx, w.trackers[u] ≠ .free) (hv : victim e e.defs[p].header.priority w.trackers = some v)
    (hq : w.trackers[v].pattern = some q) (noPending : ∀ (u : SlotIdx) (y : Pending), w.trackers[u] ≠ .pending y)
    (claim : e.defs[p].univ &&& w.claimed = 0) :
    takeStart e p time w = startIn e p time v (endSlot e v .evicted time .ready w) := by
  have kept : claimedAway e p (endSlot e v .evicted time .ready w) = false := by
    rw [endSlot_eq hq, claimedAway, overlaps, Env.pat, claim]
    rfl
  unfold takeStart
  rw [freeSlot_none full]
  dsimp only
  rw [show victim e (e.prio p) w.trackers = some v from hv]
  dsimp only
  rw [endTracker_noPending noPending, kept, endSlot_trackers, freeSlot_evicted v full]
  rfl

/-- R80, R106: the eviction of a victim. -/
theorem endSlot_evicted {e : Env} {v : SlotIdx} {q : PatIdx} {time : Time} {w : Recog}
    (hq : w.trackers[v].pattern = some q) : endSlot e v .evicted time .ready w =
      { (if e.defs[q].header.reportAbort = true then
          w.offer (.aborted q e.defs[q].header.tag w.trackers[v].step .evicted (time.setWidth 16)) else w) with
        trackers := w.trackers.set v .free, pstate := w.pstate.set q .ready, ended := w.ended ||| 1#24 <<< q.val } := by
  rw [endSlot_eq hq, abortRecord_bound hq]
  cases h : e.defs[q].header.reportAbort
  · rw [if_neg (by rw [Env.pat, h]; nofun)]
    simp [patBit]
  · rw [if_pos (by rw [Env.pat, h])]
    rfl

/-- Settles O52: a start with no tracker in use (`State.work_pressStarts`), the turns (`stage5_turns`), and a start with
every slot in use. -/
theorem pressesStartReadyPatterns : Obligations.PressesStartReadyPatterns := by
  refine ⟨fun s t list c rest raw l l' cfg p x more held w h free hl hc sat count above ready others steps first
    hl' hheld hw => ?_, fun e ev w order press all sorted => stage5_turns press all sorted, fun e p time w full =>
    ⟨fun none r hr => ?_, fun v q hv hq noPending claim => ?_⟩⟩
  · obtain ⟨n, hn, enough⟩ : ∃ n : Nat,
        ((l.state = .idle ∧ n = 1) ∨ (l.state = .arming ∧ n = l.debounce + 1)) ∧ cfg.pressDb ≤ n := by
      rcases count with ⟨state, few⟩ | ⟨state, few⟩
      · exact ⟨1, .inl ⟨state, rfl⟩, few⟩
      · exact ⟨l.debounce + 1, .inr ⟨state, rfl⟩, few⟩
    have run := ((pressesAreConfirmed s t list c rest raw h l (l.counted raw) cfg hl hc rfl sat n hn).2.2 above enough
      (s.delivered list c rest l') { chan := c, press := true, time := t, cause := .natural, duration := 0 }
      (.channel c .press (t.setWidth 16) 0) held (by rw [hl']) rfl rfl hheld).1
    obtain ⟨stays, aborts, completes⟩ := State.work_pressStarts (s := s.delivered list c rest l')
      (ev := { chan := c, press := true, time := t, cause := .natural, duration := 0 }) (report := cfg.report)
      (r := .channel c .press (t.setWidth 16) 0) (p := p) (held := held) rfl free ready others
      ⟨x, by rw [show (s.delivered list c rest l').patDef[p].steps = x :: more from steps]; rfl, first⟩ hheld rfl
    subst hw
    refine ⟨fun tap => ?_, fun chord notAll => ?_, fun chord whole u r hu hr => ?_⟩
    · exact run.trans (congrArg _ (stays _ (startProgress_tap steps tap)))
    · exact run.trans (congrArg _ (stays _ ((startProgress_chord steps chord).trans (if_neg notAll))))
    · have progress : startProgress s.patDef[p] held p t = r := by
        rw [startProgress_chord steps chord, if_pos whole, whole, hr]
        rfl
      subst hu
      exact ⟨fun y hy => run.trans (congrArg _ (stays y (progress.trans hy))),
        fun y reason time hy => run.trans (congrArg _ (aborts y reason time (progress.trans hy))),
        fun y te hy => run.trans (congrArg _ (completes y te (progress.trans hy)))⟩
  · rw [takeStart_refused full none, hr]
    rfl
  · rw [takeStart_evicts full hv hq noPending claim, endSlot_evicted hq]

end Sys2Proof.Machine
end
